-- ==== Sys2Proof/Word.lean ====
section
/-! DEFINITION. The word types of the hardware (00_scope.md R16, R20): bytes and 16-bit words. -/

namespace Sys2Proof

/-- `u8` of R20: general registers, memory bytes, device registers. -/
abbrev Byte := BitVec 8

/-- `u16` of R20: register pairs, pc, SP, addresses. -/
abbrev Word := BitVec 16

/-- A shade or a colour index, 0..3 (R518, R519). -/
abbrev Shade := BitVec 2

end Sys2Proof
end

