-- ==== Sys2Proof/Config.lean ====
section
/-! DEFINITION. What an implementation fixes (the parameters of 00_scope.md R18, held in the state as plain data so that
a statement about every state is one about every value) and the free values, which are constants with no body. -/

namespace Sys2Proof

/-- What `MODE3_EXTRA` may look at: "a function of the line's state" (60_exceptions.md R505). -/
structure LineState where
  /-- the line, its registers and the window line counter -/
  ly : Nat
  lcdc : Byte
  scx : Byte
  scy : Byte
  wx : Byte
  wy : Byte
  wline : Nat
  /-- the OAM X bytes of the selected entries, in selection order -/
  spriteXs : List Byte
  deriving DecidableEq, Repr

/-- How `MODE3_EXTRA` is taken (R505, 92_eei_decisions.md D20): a constant, the reference formula of R505, or a function
about which nothing is known but its bound. DESIGN CHOICE, log entry 6. -/
inductive Mode3Model where
  | constant (extra : Fin 118)
  | reference
  | free
  deriving DecidableEq, Repr

/-- `OAM_BUG_MODEL` (R520). -/
inductive OamBugModel where
  | havoc
  | off
  deriving DecidableEq, Repr

/-- The parameters of R18 that last as long as the machine. The others (`SUPPORTED_MBCS`, `PPU_PHASE_AT_RESET`, `INITIAL_MEMORY`) are
arguments of loading, Machine/Load.lean. DESIGN CHOICE, log entry 5. -/
structure Params where
  /-- `CLOCK_HZ` (00_scope.md R17, 70_reset_and_hazards.md R641): no rule depends on it -/
  clockHz : Nat
  /-- `OPEN_BUS` (20_memory.md R88) -/
  openBus : Byte
  /-- `BOOT_ROM`, its 256 bytes as cells 0..255, sorted (70_reset_and_hazards.md R600, R601) -/
  bootRom : Option (List Host.Cell)
  /-- `HALT_EXIT_DELAY_IME1`, `HALT_EXIT_DELAY_IME0` (60_exceptions.md R416) -/
  haltExitIme1 : Nat
  haltExitIme0 : Nat
  /-- `MODE3_EXTRA` (R505) -/
  mode3Extra : Mode3Model
  /-- `LCD_ENABLE_SKIPS_MODE2` (R510) -/
  lcdEnableSkipsMode2 : Bool
  /-- `LINE153_LY_QUIRK` (R503) -/
  line153LyQuirk : Bool
  /-- `VBLANK_MODE2_STAT` (R514) -/
  vblankMode2Stat : Bool
  /-- `OAM_BUG_MODEL` (R520) -/
  oamBug : OamBugModel
  /-- `DMA_STARTUP_MCYCLES` (R480) -/
  dmaStartup : Nat
  deriving DecidableEq, Repr

/-- The default column of the table of R18, with `MODE3_EXTRA` = 0 as R505 allows. -/
def Params.default : Params where
  clockHz := 4194304
  openBus := 0xFF
  bootRom := none
  haltExitIme1 := 1
  haltExitIme0 := 0
  mode3Extra := .constant 0
  lcdEnableSkipsMode2 := true
  line153LyQuirk := false
  vblankMode2Stat := true
  oamBug := .havoc
  dmaStartup := 1

namespace Config

/-- FREE VALUE (log entry 7): the byte the host supplies for a read of the audio range (20_memory.md R97), by the M-cycle
of the read and the address. -/
opaque audioByte : Nat → Word → Byte

/-- FREE VALUE (log entry 8): the byte the host supplies for a read of an MBC3 clock register (R127), by the M-cycle of
the read and the register number. -/
opaque clockByte : Nat → Byte → Byte

/-- FREE VALUE (log entry 9): what OAM byte `i` takes when the OAM corruption bug fires (R520), by the M-cycle and `i`. -/
opaque oamHavoc : Nat → Nat → Byte

/-- FREE VALUE (log entry 6): `MODE3_EXTRA` as an unknown function to 0..117 (R505). -/
opaque mode3Free : LineState → Fin 118

end Config

end Sys2Proof
end

