-- ==== Sys2Proof/Machine/State.lean ====
section
/-! DEFINITION. The state of the machine: every item of 10_state.md R30 to R59 as plain data, the reasons a step can stop,
and the state after reset (70_reset_and_hazards.md R600, R602). -/

namespace Sys2Proof.Machine

/-- Stored bytes by key, sorted, no entry equal to what an unlisted key reads as (Machine/Memory.lean). -/
abbrev Memory := List Host.Cell

/-- The frame buffer (R53, R519): shades by `160 * y + x`, sorted; an unlisted pixel has shade 0. -/
abbrev Frame := List (Nat × Shade)

/-- `run` (R42). -/
inductive RunMode where
  | running
  | halted
  | stopped
  | faulted (op : Byte) (addr : Word)
  deriving DecidableEq, Repr

/-- The register file and the Cpu's interrupt and run state (R30 to R43). -/
structure Cpu where
  a : Byte
  f : Byte
  b : Byte
  c : Byte
  d : Byte
  e : Byte
  h : Byte
  l : Byte
  sp : Word
  pc : Word
  ime : Bool
  /-- `ei_delay` (R41) -/
  eiDelay : Fin 3
  run : RunMode
  haltBug : Bool
  /-- the model's own field: where the last opcode was fetched (for R405's fault address; log entry 12) -/
  opAddr : Word
  deriving DecidableEq, Repr

/-- The interrupt controller: IE (R44) and the five stored bits of IF (R45). -/
structure Irq where
  ie : Byte
  iflag : BitVec 5
  deriving DecidableEq, Repr

/-- `tstate` (R47). -/
inductive TimerState where
  | running
  | overflowed
  | reloaded
  deriving DecidableEq, Repr

/-- Timer and divider (R47). -/
structure Timer where
  div16 : Word
  tima : Byte
  tma : Byte
  tac : BitVec 3
  tstate : TimerState
  deriving DecidableEq, Repr

/-- Serial unit (R48): SB, the stored bits 7 and 0 of SC, and `serial_bits`. -/
structure Serial where
  sb : Byte
  start : Bool
  internalClock : Bool
  bits : Nat
  deriving DecidableEq, Repr

/-- The eight button states (R49), true = pressed, written by the host only. -/
structure Buttons where
  right : Bool
  left : Bool
  up : Bool
  down : Bool
  a : Bool
  b : Bool
  select : Bool
  start : Bool
  deriving DecidableEq, Repr

/-- Joypad (R49): `P1sel` (bit 0 is P1 bit 4), the buttons, `p1_lines_prev`. -/
structure Joypad where
  p1sel : BitVec 2
  buttons : Buttons
  linesPrev : BitVec 4
  deriving DecidableEq, Repr

/-- PPU mode (R53, R502): HBlank 0, VBlank 1, OAM scan 2, pixel transfer 3. -/
inductive PpuMode where
  | hblank
  | vblank
  | oamScan
  | transfer
  deriving DecidableEq, Repr

/-- PPU registers and internal state (R50 to R53). -/
structure Ppu where
  lcdc : Byte
  /-- STAT bits 6:3, so bit 3 is the LYC select and bits 2, 1, 0 the mode 2, 1, 0 selects (R51) -/
  statSel : BitVec 4
  scy : Byte
  scx : Byte
  lyc : Byte
  bgp : Byte
  obp0 : Byte
  obp1 : Byte
  wy : Byte
  wx : Byte
  ly : Nat
  dot : Nat
  mode : PpuMode
  /-- `L3` -/
  l3 : Nat
  wline : Nat
  statLine : Bool
  /-- `first_line_after_enable` -/
  firstLine : Bool
  sel : List Nat
  fb : Frame
  deriving DecidableEq, Repr

/-- `dma` (R54). -/
inductive DmaState where
  | idle
  | starting (src : Byte) (n : Nat) (blocked : Bool)
  | active (src : Byte) (i : Nat)
  deriving DecidableEq, Repr

/-- The DMA register and state (R54). -/
structure Dma where
  reg : Byte
  st : DmaState
  deriving DecidableEq, Repr

/-- MBC1 registers (20_memory.md R122). -/
structure Mbc1 where
  ramEn : Bool
  bank1 : BitVec 5
  bank2 : BitVec 2
  mode : Bool
  deriving DecidableEq, Repr

/-- MBC2 registers (R124). -/
structure Mbc2 where
  ramEn : Bool
  romBank : BitVec 4
  deriving DecidableEq, Repr

/-- MBC3 registers (R125) and whether the type has the clock (R127). -/
structure Mbc3 where
  ramEn : Bool
  romBank : BitVec 7
  ramSel : Byte
  latchPrev : Byte
  hasClock : Bool
  deriving DecidableEq, Repr

/-- MBC5 registers (R128). -/
structure Mbc5 where
  ramEn : Bool
  romBank : BitVec 9
  ramBank : BitVec 4
  deriving DecidableEq, Repr

/-- The bank-switching scheme with its registers (R109, R120): "a closed set of tagged variants". -/
inductive Scheme where
  | romOnly
  | mbc1 (r : Mbc1)
  | mbc2 (r : Mbc2)
  | mbc3 (r : Mbc3)
  | mbc5 (r : Mbc5)
  deriving DecidableEq, Repr

/-- Cartridge state (R55): the scheme, the number of 16 KiB ROM banks (R110) and the external RAM size in bytes (R118). -/
structure Cart where
  scheme : Scheme
  romBanks : Nat
  ramSize : Nat
  deriving DecidableEq, Repr

/-- Outputs handed to the host (log entry 11): DIV-APU ticks (R447), audio writes (R97), MBC3 clock writes and latches
(R127), delivered frames (R527). -/
inductive HostEvent where
  | divApuTick
  | audioWrite (addr : Word) (v : Byte)
  | clockWrite (reg : Byte) (v : Byte)
  | clockLatch
  | frame (fb : Frame)
  deriving DecidableEq, Repr

/-- Everything the Cpu reaches through the bus, and the devices stepped with it (R82, R85). -/
structure Bus where
  /-- all stored bytes: VRAM, WRAM, OAM, HRAM, the ROM image and external RAM (R56), by the keys of Machine/Memory.lean -/
  mem : Memory
  cart : Cart
  irq : Irq
  timer : Timer
  serial : Serial
  joypad : Joypad
  ppu : Ppu
  dma : Dma
  /-- `boot_mapped` (R601) -/
  bootMapped : Bool
  params : Params
  /-- the model's own field: M-cycles performed so far (R8's count is its difference; it indexes the free values) -/
  cycles : Nat
  /-- the model's own field: outputs to the host, newest first -/
  events : List HostEvent
  deriving DecidableEq, Repr

/-- The whole machine. -/
structure State where
  cpu : Cpu
  bus : Bus
  deriving DecidableEq, Repr

/-- The invariants of 60_exceptions.md R407, by name. -/
inductive Invariant where
  | eiDelayWithIme
  | dmaActiveRange
  | dmaStartingRange
  | dotRange
  | lyRange
  | lcdOffPosition
  | serialBitsRange
  deriving DecidableEq, Repr

/-- Why the machine stops. Both are the spec's own terminal faults (R409). -/
inductive Fault where
  /-- Raised by the eleven illegal opcodes (R366) and by every step of a faulted machine (R405). Safe: the real part
  locks up. It carries the state the spec leaves, with `run` faulted, which no rule then changes (log entry 13). -/
  | unimplementedOpcode (op : Byte) (addr : Word) (after : State)
  /-- Raised by the step alone, on a state that breaks an invariant of R407. Safe: no run from a valid state gets there
  (92_eei_decisions.md D43, log entry 14). -/
  | invariantViolation (which : Invariant)
  deriving DecidableEq, Repr

/-- Why an instruction has no meaning. No arm of `exec` uses it. -/
inductive Refusal where
  /-- Would be raised by `exec` for an instruction without a meaning. Safe. -/
  | notModelled (mnemonic : String)
  deriving DecidableEq, Repr

/-- The machine after reset with `BOOT_ROM = none` (R600, R602): the table of R602, the default parameters of R18, the
PPU phase (0, 0) (log entry 4), OBP0 = OBP1 = 0 (log entry 3), nothing listed in memory (log entry 1) and the ROM-only
cartridge of the all-zero 32 KiB image (log entry 2). -/
def State.reset : State where
  cpu := {
    a := 0x01, f := 0xB0, b := 0x00, c := 0x13, d := 0x00, e := 0xD8, h := 0x01, l := 0x4D
    sp := 0xFFFE, pc := 0x0100
    ime := false, eiDelay := 0, run := .running, haltBug := false, opAddr := 0x0100 }
  bus := {
    mem := []
    cart := { scheme := .romOnly, romBanks := 2, ramSize := 0 }
    irq := { ie := 0x00, iflag := 0b00001 }
    timer := { div16 := 0xABCC, tima := 0x00, tma := 0x00, tac := 0b000, tstate := .running }
    serial := { sb := 0x00, start := false, internalClock := false, bits := 0 }
    joypad := {
      p1sel := 0b00
      buttons := { right := false, left := false, up := false, down := false
                   a := false, b := false, select := false, start := false }
      linesPrev := 0xF }
    ppu := {
      lcdc := 0x91, statSel := 0b0000, scy := 0, scx := 0, lyc := 0, bgp := 0xFC
      obp0 := 0, obp1 := 0, wy := 0, wx := 0
      ly := 0, dot := 0, mode := .oamScan, l3 := 172, wline := 0
      statLine := false, firstLine := false, sel := [], fb := [] }
    dma := { reg := 0xFF, st := .idle }
    bootMapped := false
    params := Params.default
    cycles := 0
    events := [] }

end Sys2Proof.Machine
end

