-- ==== Sys2Proof/Machine/Memory.lean ====
section
/-! DEFINITION. Reading and writing one byte of stored memory, and the keys under which each memory of 10_state.md R56 is
kept. The list form is canonical: keys strictly rising, no entry equal to what an unlisted key reads as (log entry 1). -/

namespace Sys2Proof.Machine

/-- The value at key `k` of a sorted list, `d` where it is not listed. -/
def sparseRead {α : Type} (d : α) : List (Nat × α) → Nat → α
  | [], _ => d
  | (j, v) :: rest, k => if k = j then v else if k < j then d else sparseRead d rest k

/-- Store `v` at key `k`, keeping the list sorted and without entries equal to `d`. -/
def sparseWrite {α : Type} [DecidableEq α] (d : α) : List (Nat × α) → Nat → α → List (Nat × α)
  | [], k, v => if v = d then [] else [(k, v)]
  | (j, w) :: rest, k, v =>
    if k < j then (if v = d then (j, w) :: rest else (k, v) :: (j, w) :: rest)
    else if k = j then (if v = d then rest else (k, v) :: rest)
    else (j, w) :: sparseWrite d rest k v

/-- The canonical form: every key at least `lo` and rising strictly, no value equal to `d`. -/
def sparseWf {α : Type} [DecidableEq α] (d : α) : Nat → List (Nat × α) → Bool
  | _, [] => true
  | lo, (j, w) :: rest => decide (lo ≤ j) && decide (w ≠ d) && sparseWf d (j + 1) rest

/-- What a byte that nothing has written reads as: the model's `INITIAL_MEMORY` and ROM padding.
DESIGN CHOICE, unsafe for runs from `State.reset`, log entry 1 (70_reset_and_hazards.md R605). -/
def Memory.unlisted : Byte := 0x00

def Memory.read (m : Memory) (k : Nat) : Byte := sparseRead Memory.unlisted m k

def Memory.write (m : Memory) (k : Nat) (v : Byte) : Memory := sparseWrite Memory.unlisted m k v

/-- The canonical form holds. -/
def Memory.wf (m : Memory) : Bool := sparseWf Memory.unlisted 0 m

/-- The shade of pixel `k = 160 * y + x` (R519); an unlisted pixel has shade 0, the reset value of `fb` (R53). -/
def Frame.read (f : Frame) (k : Nat) : Shade := sparseRead 0 f k

def Frame.write (f : Frame) (k : Nat) (v : Shade) : Frame := sparseWrite 0 f k v

def Frame.wf (f : Frame) : Bool := sparseWf (0 : Shade) 0 f

/-- Key of byte `o` of the ROM image. -/
def romKey (o : Nat) : Nat := 0x10000 + o

/-- Key of byte `o` of the external RAM. -/
def extRamKey (o : Nat) : Nat := 0x1000000 + o

/-- Key of OAM byte `i`: its Cpu address (20_memory.md R81), as for VRAM, WRAM and HRAM. -/
def oamKey (i : Nat) : Nat := 0xFE00 + i

/-- Key of the WRAM byte at offset `o` (R81). -/
def wramKey (o : Nat) : Nat := 0xC000 + o

end Sys2Proof.Machine
end

