-- ==== Sys2Proof/Machine/Cartridge.lean ====
section
/-! DEFINITION. The cartridge controllers of 20_memory.md R109 to R128: ROM and RAM translation and control writes. -/

namespace Sys2Proof.Machine

/-- `bank(a)` of each scheme (R121, R123, R124, R126, R128), before masking. -/
def Scheme.romBank (s : Scheme) (a : Word) : Nat :=
  if a.toNat ≤ 0x3FFF then
    match s with
    | .mbc1 r => if r.mode then r.bank2.toNat * 32 else 0
    | _ => 0
  else
    match s with
    | .romOnly => 1
    | .mbc1 r => r.bank2.toNat * 32 + r.bank1.toNat
    | .mbc2 r => r.romBank.toNat
    | .mbc3 r => r.romBank.toNat
    | .mbc5 r => r.romBank.toNat

/-- The offset in the image that a ROM address reads (R110): the bank masked by `rom_banks - 1`. -/
def Cart.romOffset (c : Cart) (a : Word) : Nat :=
  (c.scheme.romBank a &&& (c.romBanks - 1)) * 0x4000 + (a.toNat &&& 0x3FFF)

/-- What an external RAM address reaches: nothing (R113), a byte, an MBC2 half-byte (R124) or an MBC3 clock register. -/
inductive RamTarget where
  | absent
  | byte (o : Nat)
  | halfByte (o : Nat)
  | clock (reg : Byte)
  deriving DecidableEq, Repr

/-- The byte that RAM bank `r` shows at `a` (R112), nothing where the cartridge has no RAM (R113). -/
def Cart.ramByte (c : Cart) (r : Nat) (a : Word) : RamTarget :=
  if c.ramSize = 0 then .absent else .byte ((r * 0x2000 + (a.toNat &&& 0x1FFF)) % c.ramSize)

/-- MBC3's choice by `ram_sel` (R126, R127). DEDUCED, log entry 29: `ram_size = 0` (R113) takes away the RAM banks and not the
clock registers. -/
def Cart.mbc3Target (c : Cart) (r : Mbc3) (a : Word) : RamTarget :=
  if r.ramSel.toNat ≤ 0x03 then c.ramByte r.ramSel.toNat a
  else if 0x08 ≤ r.ramSel.toNat ∧ r.ramSel.toNat ≤ 0x0C ∧ r.hasClock = true then .clock r.ramSel
  else .absent

/-- What an address of 0xA000..0xBFFF reaches under each scheme (R113, R121, R123, R124, R126, R128). -/
def Cart.ramTarget (c : Cart) (a : Word) : RamTarget :=
  match c.scheme with
  | .romOnly => c.ramByte 0 a
  | .mbc1 r => if r.ramEn then c.ramByte (if r.mode then r.bank2.toNat else 0) a else .absent
  | .mbc2 r => if r.ramEn then .halfByte (a.toNat &&& 0x01FF) else .absent
  | .mbc3 r => if r.ramEn then c.mbc3Target r a else .absent
  | .mbc5 r => if r.ramEn then c.ramByte r.ramBank.toNat a else .absent

/-- The low nibble is 0xA, the RAM-enable test of MBC1, MBC2 and MBC3. -/
def lowNibbleA (v : Byte) : Bool := v &&& 0x0F == 0x0A

/-- `if bank == 0: bank <- 1` (R122, R124, R125). -/
def zeroToOne {w : Nat} (v : BitVec w) : BitVec w := if v = 0 then 1 else v

/-- `ControlWrite` of MBC1 (R122). -/
def Mbc1.controlWrite (r : Mbc1) (a : Word) (v : Byte) : Mbc1 :=
  if a.toNat ≤ 0x1FFF then { r with ramEn := lowNibbleA v }
  else if a.toNat ≤ 0x3FFF then { r with bank1 := zeroToOne (v.setWidth 5) }
  else if a.toNat ≤ 0x5FFF then { r with bank2 := v.setWidth 2 }
  else { r with mode := v.getLsbD 0 }

/-- `ControlWrite` of MBC2 (R124): address bit 8 selects the register. -/
def Mbc2.controlWrite (r : Mbc2) (a : Word) (v : Byte) : Mbc2 :=
  if a.toNat ≤ 0x3FFF then
    if a.getLsbD 8 then { r with romBank := zeroToOne (v.setWidth 4) } else { r with ramEn := lowNibbleA v }
  else r

/-- `ControlWrite` of MBC3 (R125), but for the latch (`Mbc3.latches`). -/
def Mbc3.controlWrite (r : Mbc3) (a : Word) (v : Byte) : Mbc3 :=
  if a.toNat ≤ 0x1FFF then { r with ramEn := lowNibbleA v }
  else if a.toNat ≤ 0x3FFF then { r with romBank := zeroToOne (v.setWidth 7) }
  else if a.toNat ≤ 0x5FFF then { r with ramSel := v }
  else { r with latchPrev := v }

/-- The write calls `RtcLatch()` (R125, R127): 0x00 then 0x01 in 0x6000..0x7FFF, on a type with the clock. -/
def Mbc3.latches (r : Mbc3) (a : Word) (v : Byte) : Bool :=
  r.hasClock && decide (0x6000 ≤ a.toNat) && r.latchPrev == 0x00 && v == 0x01

/-- `ControlWrite` of MBC5 (R128): the whole byte is compared with 0x0A. -/
def Mbc5.controlWrite (r : Mbc5) (a : Word) (v : Byte) : Mbc5 :=
  if a.toNat ≤ 0x1FFF then { r with ramEn := v == 0x0A }
  else if a.toNat ≤ 0x2FFF then { r with romBank := r.romBank.extractLsb' 8 1 ++ v }
  else if a.toNat ≤ 0x3FFF then { r with romBank := v.extractLsb' 0 1 ++ r.romBank.extractLsb' 0 8 }
  else if a.toNat ≤ 0x5FFF then { r with ramBank := v.setWidth 4 }
  else r

/-- The scheme after a control write. -/
def Scheme.controlWrite (s : Scheme) (a : Word) (v : Byte) : Scheme :=
  match s with
  | .romOnly => .romOnly
  | .mbc1 r => .mbc1 (r.controlWrite a v)
  | .mbc2 r => .mbc2 (r.controlWrite a v)
  | .mbc3 r => .mbc3 (r.controlWrite a v)
  | .mbc5 r => .mbc5 (r.controlWrite a v)

/-- The write latches the MBC3 clock. -/
def Scheme.latches (s : Scheme) (a : Word) (v : Byte) : Bool :=
  match s with
  | .mbc3 r => r.latches a v
  | _ => false

/-- An output to the host (log entry 11). -/
def Bus.emit (b : Bus) (e : HostEvent) : Bus := { b with events := e :: b.events }

/-- `Cart.RomRead(a)` (R110). -/
def Bus.romRead (b : Bus) (a : Word) : Byte := b.mem.read (romKey (b.cart.romOffset a))

/-- `Cart.ControlWrite(a, v)` (R110): registers only, never the image (R107). -/
def Bus.controlWrite (b : Bus) (a : Word) (v : Byte) : Bus :=
  let b' := { b with cart := { b.cart with scheme := b.cart.scheme.controlWrite a v } }
  if b.cart.scheme.latches a v then b'.emit .clockLatch else b'

/-- `Cart.RamRead(a)` (R110, R113, R124, R126); a clock register is answered by the host (R127, log entry 8). -/
def Bus.ramRead (b : Bus) (a : Word) : Byte :=
  match b.cart.ramTarget a with
  | .absent => b.params.openBus
  | .byte o => b.mem.read (extRamKey o)
  | .halfByte o => 0xF0 ||| b.mem.read (extRamKey o)
  | .clock reg => Config.clockByte b.cycles reg

end Sys2Proof.Machine
end

