-- ==== Sys2Proof/Machine/Timer.lean ====
section
/-! DEFINITION. The interrupt controller's requests (60_exceptions.md R400, R401), the timer and divider (R440 to R449), the
serial unit (R464, R465) and the joypad (R460, R461). -/

namespace Sys2Proof.Machine

/-- `request(source)`: set one bit of IF (R400). -/
def Bus.request (b : Bus) (bit : Nat) : Bus :=
  { b with irq := { b.irq with iflag := b.irq.iflag ||| (1#5 <<< bit) } }

/-- `pending = IE & IF & 0x1F` (R401). -/
def Bus.pending (b : Bus) : BitVec 5 := b.irq.ie.setWidth 5 &&& b.irq.iflag

/-- `SerialShiftEdge()` (R465). -/
def Bus.serialShiftEdge (b : Bus) : Bus :=
  if b.serial.bits = 0 then b
  else
    let shifted := { b.serial with sb := (b.serial.sb <<< 1) ||| 1, bits := b.serial.bits - 1 }
    if b.serial.bits = 1 then ({ b with serial := { shifted with start := false } } : Bus).request 3
    else { b with serial := shifted }

/-- `DivApuTick()` (R447): an output event only. -/
def Bus.divApuTick (b : Bus) : Bus := b.emit .divApuTick

/-- The divider bit of the table of R441. -/
def timerBit (tac : BitVec 3) : Nat :=
  match (tac.extractLsb' 0 2).toNat with
  | 0 => 9
  | 1 => 3
  | 2 => 5
  | _ => 7

/-- `TimerSignal()` (R441). -/
def Timer.signal (t : Timer) : Bool := t.tac.getLsbD 2 && t.div16.getLsbD (timerBit t.tac)

/-- `TimaIncrement()` (R441). -/
def Timer.increment (t : Timer) : Timer :=
  if t.tima = 0xFF then { t with tima := 0x00, tstate := .overflowed } else { t with tima := t.tima + 1 }

/-- TIMA counts a falling edge of the signal between `old` and `new` (R441, R443, R446). -/
def Timer.countEdge (old new : Timer) : Timer := if old.signal && !new.signal then new.increment else new

/-- Bit `i` falls from 1 to 0. -/
def fallingBit (old new : Word) (i : Nat) : Bool := old.getLsbD i && !new.getLsbD i

/-- The divider takes the value `d`, with every falling edge this makes: TIMA (R441), DIV-APU bit 12 (R447), serial bit 8
(R465). One T-cycle sets it one higher (R442); a DIV write and STOP set it to 0 (R443, R362). -/
def Bus.setDivider (b : Bus) (d : Word) : Bus :=
  let t := Timer.countEdge b.timer { b.timer with div16 := d }
  let b1 : Bus := { b with timer := t }
  let b2 := if fallingBit b.timer.div16 d 12 then b1.divApuTick else b1
  if fallingBit b.timer.div16 d 8 then b2.serialShiftEdge else b2

/-- The reload phase of R442. -/
def Bus.timerReload (b : Bus) : Bus :=
  match b.timer.tstate with
  | .running => b
  | .reloaded => { b with timer := { b.timer with tstate := .running } }
  | .overflowed => ({ b with timer := { b.timer with tima := b.timer.tma, tstate := .reloaded } } : Bus).request 2

/-- One T-cycle of the divider (R442). -/
def Bus.timerTCycle (b : Bus) : Bus := b.setDivider (b.timer.div16 + 1)

/-- The timer's M-cycle (R442): the reload phase, then four T-cycles. -/
def Bus.timerMCycle (b : Bus) : Bus := b.timerReload.timerTCycle.timerTCycle.timerTCycle.timerTCycle

/-- TIMA write (R444). -/
def Timer.writeTima (t : Timer) (v : Byte) : Timer :=
  match t.tstate with
  | .overflowed => { t with tima := v, tstate := .running }
  | .reloaded => t
  | .running => { t with tima := v }

/-- TMA write (R445). -/
def Timer.writeTma (t : Timer) (v : Byte) : Timer :=
  match t.tstate with
  | .reloaded => { t with tma := v, tima := v }
  | _ => { t with tma := v }

/-- TAC write (R446). -/
def Timer.writeTac (t : Timer) (v : Byte) : Timer := Timer.countEdge t { t with tac := v.setWidth 3 }

/-- SC write (R464). -/
def Serial.writeSc (s : Serial) (v : Byte) : Serial where
  sb := s.sb
  start := v.getLsbD 7
  internalClock := v.getLsbD 0
  bits := if v.getLsbD 7 && v.getLsbD 0 then 8 else 0

/-- SC read, `0x7E | SC[7] << 7 | SC[0]` (R464). -/
def Serial.readSc (s : Serial) : Byte := BitVec.ofBool s.start ++ (0b111111#6 ++ BitVec.ofBool s.internalClock)

/-- The direction nibble of R460, Down Up Left Right from bit 3. -/
def Buttons.directions (x : Buttons) : BitVec 4 :=
  BitVec.ofBool x.down ++ (BitVec.ofBool x.up ++ (BitVec.ofBool x.left ++ BitVec.ofBool x.right))

/-- The action nibble of R460, Start Select B A from bit 3. -/
def Buttons.actions (x : Buttons) : BitVec 4 :=
  BitVec.ofBool x.start ++ (BitVec.ofBool x.select ++ (BitVec.ofBool x.b ++ BitVec.ofBool x.a))

/-- `lines` (R460): a pressed button of a selected group pulls its line to 0. -/
def Joypad.lines (j : Joypad) : BitVec 4 :=
  let l := if j.p1sel.getLsbD 0 then 0xF#4 else 0xF#4 &&& ~~~ j.buttons.directions
  if j.p1sel.getLsbD 1 then l else l &&& ~~~ j.buttons.actions

/-- P1 read (R460). -/
def Joypad.readP1 (j : Joypad) : Byte := 0b11#2 ++ (j.p1sel ++ j.lines)

/-- The joypad's line sample, step 6 of R85 (R461). -/
def Bus.joypadSample (b : Bus) : Bus :=
  let now := b.joypad.lines
  let b' : Bus := { b with joypad := { b.joypad with linesPrev := now } }
  if b.joypad.linesPrev &&& ~~~ now = 0 then b' else b'.request 4

/-- `JoypadWake()` (R424). -/
def Bus.joypadWake (b : Bus) : Bool := b.joypad.lines != 0xF

end Sys2Proof.Machine
end

