-- ==== Sys2Proof/Machine/Ppu.lean ====
section
/-! DEFINITION. The PPU: the scanline state machine, its interrupt line and the line renderer (60_exceptions.md R500 to R527). -/

namespace Sys2Proof.Machine

/-- The mode number in STAT bits 1:0 (R502). -/
def PpuMode.bits : PpuMode → BitVec 2
  | .hblank => 0
  | .vblank => 1
  | .oamScan => 2
  | .transfer => 3

/-- LCDC bit 7 (R50). -/
def Ppu.lcdOn (p : Ppu) : Bool := p.lcdc.getLsbD 7

/-- `LYread()` (R503). -/
def Ppu.lyRead (p : Ppu) (quirk : Bool) : Byte :=
  if quirk && decide (p.ly = 153) && decide (4 ≤ p.dot) then 0 else BitVec.ofNat 8 p.ly

/-- `LYread() = LYC` (R504). -/
def Ppu.coincidence (p : Ppu) (quirk : Bool) : Bool := p.lyRead quirk == p.lyc

/-- STAT read (R51). -/
def Ppu.readStat (p : Ppu) (quirk : Bool) : Byte :=
  1#1 ++ (p.statSel ++ (BitVec.ofBool (p.coincidence quirk) ++ p.mode.bits))

/-- `Mode(LY, dot)` (R502, R510). -/
def Ppu.modeAt (p : Ppu) (skips : Bool) : PpuMode :=
  if 144 ≤ p.ly then .vblank
  else if p.dot < 80 then (if p.firstLine && skips then .hblank else .oamScan)
  else if p.dot < 80 + p.l3 then .transfer
  else .hblank

/-- The STAT line of R513 (and R514); 0 while the LCD is off. -/
def Ppu.statCondition (p : Ppu) (ps : Params) : Bool :=
  p.lcdOn &&
    ((p.statSel.getLsbD 3 && p.coincidence ps.line153LyQuirk) ||
     (p.statSel.getLsbD 2 && decide (p.mode = .oamScan)) ||
     (p.statSel.getLsbD 1 && decide (p.mode = .vblank)) ||
     (p.statSel.getLsbD 0 && decide (p.mode = .hblank)) ||
     (ps.vblankMode2Stat && p.statSel.getLsbD 2 && decide (p.ly = 144) && decide (p.dot = 0)))

/-- `UpdateStatLine()` (R513). -/
def Bus.updateStatLine (b : Bus) : Bus :=
  let line := b.ppu.statCondition b.params
  let b' : Bus := { b with ppu := { b.ppu with statLine := line } }
  if line && !b.ppu.statLine then b'.request 1 else b'

/-- Sprite height (R516). -/
def Ppu.objHeight (p : Ppu) : Nat := if p.lcdc.getLsbD 2 then 16 else 8

/-- Byte `j` of OAM entry `k` (R516), as the PPU sees it, never blocked (R521). -/
def oamByte (m : Memory) (k j : Nat) : Byte := m.read (oamKey (4 * k + j))

/-- `OamScanEntry(k)` (R525); the list is cleared before entry 0. -/
def Bus.oamScanEntry (b : Bus) (k : Nat) : Bus :=
  let chosen := if k = 0 then [] else b.ppu.sel
  let y := (oamByte b.mem k 0).toNat
  let line := b.ppu.ly + 16
  let hit := decide (chosen.length < 10) && decide (y ≤ line) && decide (line < y + b.ppu.objHeight)
  { b with ppu := { b.ppu with sel := if hit then chosen ++ [k] else chosen } }

/-- The window is drawn on line `y` (R508). -/
def Ppu.windowOn (p : Ppu) (y : Nat) : Bool :=
  p.lcdc.getLsbD 5 && p.lcdc.getLsbD 0 && decide (p.wy.toNat ≤ y) && decide (p.wx.toNat ≤ 166)

/-- The line's state that `MODE3_EXTRA` may look at (R505). -/
def Bus.lineState (b : Bus) : LineState where
  ly := b.ppu.ly
  lcdc := b.ppu.lcdc
  scx := b.ppu.scx
  scy := b.ppu.scy
  wx := b.ppu.wx
  wy := b.ppu.wy
  wline := b.ppu.wline
  spriteXs := b.ppu.sel.map (fun k => oamByte b.mem k 1)

/-- The penalty of one selected sprite in the reference formula of R505. -/
def spritePenalty (scx x : Byte) : Nat := 6 + (5 - (x.toNat + scx.toNat) % 8)

/-- The reference formula of R505. -/
def Bus.mode3Reference (b : Bus) : Nat :=
  min 117 (b.ppu.scx.toNat % 8 + (if b.ppu.windowOn b.ppu.ly then 6 else 0) +
    (b.lineState.spriteXs.map (spritePenalty b.ppu.scx)).sum)

/-- `MODE3_EXTRA` of the current line (R505, log entry 6). -/
def Bus.mode3Extra (b : Bus) : Nat :=
  match b.params.mode3Extra with
  | .constant n => n.val
  | .reference => b.mode3Reference
  | .free => (Config.mode3Free b.lineState).val

/-- `TileRow(base_sel, t, row)` (R507): the bytes `lo` and `hi`. -/
def tileRow (m : Memory) (unsignedBase : Bool) (t : Byte) (row : Nat) : Byte × Byte :=
  let addr := if unsignedBase then 0x8000 + 16 * t.toNat else ((0x9000 : Int) + 16 * t.toInt).toNat
  (m.read (addr + 2 * row), m.read (addr + 2 * row + 1))

/-- The colour index of column `c` of a tile row (R507). -/
def colourIndex (row : Byte × Byte) (c : Nat) : Shade :=
  BitVec.ofBool (row.2.getLsbD (7 - c)) ++ BitVec.ofBool (row.1.getLsbD (7 - c))

/-- A map cell and the pixel in its tile, shared by R507 and R508. -/
def mapPixel (m : Memory) (p : Ppu) (highMap : Bool) (px py : Nat) : Shade :=
  let t := m.read ((if highMap then 0x9C00 else 0x9800) + 32 * (py / 8) + px / 8)
  colourIndex (tileRow m (p.lcdc.getLsbD 4) t (py % 8)) (px % 8)

/-- The BG or window index at screen (x, y) (R507, R508); with LCDC bit 0 = 0 it is index 0 everywhere (R507). -/
def bgIndex (m : Memory) (p : Ppu) (x y : Nat) : Shade :=
  if !p.lcdc.getLsbD 0 then 0
  else if p.windowOn y && decide (p.wx.toNat ≤ x + 7) then
    mapPixel m p (p.lcdc.getLsbD 6) (x + 7 - p.wx.toNat) p.wline
  else
    mapPixel m p (p.lcdc.getLsbD 3) ((x + p.scx.toNat) % 256) ((y + p.scy.toNat) % 256)

/-- The colour index of selected entry `k` at (x, y) (R517); `none` where it does not cover column x. The row arithmetic
is that of bytes (00_scope.md R20; log entry 16). -/
def spriteIndex (m : Memory) (p : Ppu) (k x y : Nat) : Option Shade :=
  let sx := (oamByte m k 1).toNat
  let tile := oamByte m k 2
  let attr := oamByte m k 3
  if sx ≤ x + 8 ∧ x + 8 < sx + 8 then
    let r0 : Byte := BitVec.ofNat 8 (y + 16) - oamByte m k 0
    let r := if attr.getLsbD 6 then BitVec.ofNat 8 (p.objHeight - 1) - r0 else r0
    let t := if p.objHeight = 16 then (tile &&& 0xFE) + BitVec.ofNat 8 (r.toNat / 8) else tile
    let c := x + 8 - sx
    some (colourIndex (tileRow m true t (r.toNat % 8)) (if attr.getLsbD 5 then 7 - c else c))
  else none

/-- A sprite pixel that is drawn over transparency: its OAM X, its entry, its index. -/
structure SpritePixel where
  sx : Nat
  k : Nat
  index : Shade
  deriving DecidableEq, Repr

/-- Entry `k` offers a non-transparent pixel at (x, y). -/
def spritePixel (m : Memory) (p : Ppu) (x y k : Nat) : Option SpritePixel :=
  match spriteIndex m p k x y with
  | some i => if i = 0 then none else some { sx := (oamByte m k 1).toNat, k := k, index := i }
  | none => none

/-- The smaller X wins, and among equal X the lower OAM index (R518). -/
def betterSprite : Option SpritePixel → SpritePixel → Option SpritePixel
  | none, q => some q
  | some p, q => if q.sx < p.sx ∨ (q.sx = p.sx ∧ q.k < p.k) then some q else some p

/-- The winning sprite pixel at (x, y) among the selected entries (R518). -/
def winningSprite (m : Memory) (p : Ppu) (x y : Nat) : Option SpritePixel :=
  if p.lcdc.getLsbD 1 then (p.sel.filterMap (spritePixel m p x y)).foldl betterSprite none else none

/-- The shade of index `i` under palette `pal`: `P[2i+1:2i]` (R518). -/
def paletteShade (pal : Byte) (i : Shade) : Shade := pal.extractLsb' (2 * i.toNat) 2

/-- `Pixel(x, y)` (R518). Where LCDC bit 0 blanks the background its index is 0 (R507) and its shade BGP's shade of index 0
(R518). DEDUCED, log entry 26: the "shade 0" in the table of 10_state.md R50 is read as that index. -/
def pixel (m : Memory) (p : Ppu) (x y : Nat) : Shade :=
  let b := bgIndex m p x y
  match winningSprite m p x y with
  | none => paletteShade p.bgp b
  | some s =>
    let attr := oamByte m s.k 3
    if attr.getLsbD 7 && b != 0 then paletteShade p.bgp b
    else paletteShade (if attr.getLsbD 4 then p.obp1 else p.obp0) s.index

/-- The first `n` pixels of line `y` drawn into `fb` (R506). -/
def drawLine (m : Memory) (p : Ppu) (y : Nat) : Nat → Frame → Frame
  | 0, fb => fb
  | n + 1, fb => (drawLine m p y n fb).write (160 * y + n) (pixel m p n y)

/-- `RenderLine(LY)` (R506) with the window line counter (R524). -/
def Bus.renderLine (b : Bus) : Bus :=
  { b with ppu := { b.ppu with
      fb := drawLine b.mem b.ppu b.ppu.ly 160 b.ppu.fb
      wline := if b.ppu.windowOn b.ppu.ly then b.ppu.wline + 1 else b.ppu.wline } }

/-- The dot counter and LY move on (R501). -/
def Ppu.nextDot (p : Ppu) : Ppu :=
  if p.dot + 1 = 456 then
    if p.ly + 1 = 154 then { p with dot := 0, ly := 0, wline := 0, firstLine := false }
    else { p with dot := 0, ly := p.ly + 1, firstLine := false }
  else { p with dot := p.dot + 1 }

/-- VBlank at line 144 dot 0: the request and the delivered frame (R501, R511, R527). -/
def Bus.vblankEntry (b : Bus) : Bus :=
  if b.ppu.ly = 144 ∧ b.ppu.dot = 0 then (b.request 0).emit (.frame b.ppu.fb) else b

/-- The OAM scan of a visible line: entry k at dot 2k (R501, R525). -/
def Bus.scanDot (b : Bus) : Bus :=
  if b.ppu.ly < 144 ∧ b.ppu.dot < 80 ∧ b.ppu.dot % 2 = 0 then b.oamScanEntry (b.ppu.dot / 2) else b

/-- At dot 80 of a visible line the pixel-transfer length is fixed (R505). -/
def Bus.lengthDot (b : Bus) : Bus :=
  if b.ppu.ly < 144 ∧ b.ppu.dot = 80 then { b with ppu := { b.ppu with l3 := 172 + b.mode3Extra } } else b

/-- At dot 80 + L3 of a visible line it is rendered (R506). -/
def Bus.renderDot (b : Bus) : Bus :=
  if b.ppu.ly < 144 ∧ b.ppu.dot = 80 + b.ppu.l3 then b.renderLine else b

/-- The stored mode follows `Mode(LY, dot)` (R502). -/
def Bus.updateMode (b : Bus) : Bus :=
  { b with ppu := { b.ppu with mode := b.ppu.modeAt b.params.lcdEnableSkipsMode2 } }

/-- `PpuDot()` (R501). -/
def Bus.ppuDot (b : Bus) : Bus :=
  if b.ppu.lcdOn then
    ({ b with ppu := b.ppu.nextDot } : Bus).vblankEntry.scanDot.lengthDot.renderDot.updateMode.updateStatLine
  else b

/-- The PPU's M-cycle: four dots (R85 step 5). -/
def Bus.ppuMCycle (b : Bus) : Bus := b.ppuDot.ppuDot.ppuDot.ppuDot

/-- LCDC write (R509, R510, R513). Turning the LCD on is at the start of line 0, where the window line counter is reset (R524,
log entry 21). -/
def Bus.writeLcdc (b : Bus) (v : Byte) : Bus :=
  let p := { b.ppu with lcdc := v }
  if b.ppu.lcdOn && !p.lcdOn then
    { b with ppu := { p with ly := 0, dot := 0, mode := .hblank, statLine := false } }
  else if !b.ppu.lcdOn && p.lcdOn then
    let started : Bus := { b with ppu := { p with ly := 0, dot := 0, wline := 0, firstLine := true, sel := [] } }
    (started.oamScanEntry 0).updateMode.updateStatLine
  else ({ b with ppu := p } : Bus).updateStatLine

/-- STAT write (R515). -/
def Bus.writeStat (b : Bus) (v : Byte) : Bus :=
  ({ b with ppu := { b.ppu with statSel := v.extractLsb' 3 4 } } : Bus).updateStatLine

/-- LYC write (R515). -/
def Bus.writeLyc (b : Bus) (v : Byte) : Bus :=
  ({ b with ppu := { b.ppu with lyc := v } } : Bus).updateStatLine

end Sys2Proof.Machine
end

