-- ==== Sys2Proof/Machine/Bus.lean ====
section
/-! DEFINITION. The memory map (20_memory.md R81), OAM DMA (60_exceptions.md R480 to R486), the Cpu's read and write views
of the bus (R86, R87, 10_state.md R57) and the device part of one M-cycle (R85). -/

namespace Sys2Proof.Machine

/-- The owner of each address: "every address maps to exactly one owner" (R81, R82). -/
inductive Region where
  | rom
  | vram
  | extRam
  | wram
  | echo
  | oam
  | unusable
  | io
  | hram
  | ie
  deriving DecidableEq, Repr

/-- The memory map (R81). -/
def region (a : Word) : Region :=
  if a.toNat ≤ 0x7FFF then .rom
  else if a.toNat ≤ 0x9FFF then .vram
  else if a.toNat ≤ 0xBFFF then .extRam
  else if a.toNat ≤ 0xDFFF then .wram
  else if a.toNat ≤ 0xFDFF then .echo
  else if a.toNat ≤ 0xFE9F then .oam
  else if a.toNat ≤ 0xFEFF then .unusable
  else if a.toNat ≤ 0xFF7F then .io
  else if a.toNat ≤ 0xFFFE then .hram
  else .ie

/-- `VramBlocked()` (R98). -/
def Bus.vramBlocked (b : Bus) : Bool := b.ppu.lcdOn && decide (b.ppu.mode = .transfer)

/-- `OamBlocked()` (R99). -/
def Bus.oamBlocked (b : Bus) : Bool :=
  b.ppu.lcdOn && (decide (b.ppu.mode = .oamScan) || decide (b.ppu.mode = .transfer))

/-- `DmaBlocksCpu()` (R100). -/
def DmaState.blocksCpu : DmaState → Bool
  | .active _ _ => true
  | .starting _ _ blocked => blocked
  | .idle => false

/-- The DMA locks the Cpu out of `a` (R100): every address below 0xFF00. -/
def Bus.dmaBlocks (b : Bus) (a : Word) : Bool := b.dma.st.blocksCpu && decide (a.toNat < 0xFF00)

/-- The boot ROM byte that overlays `a`, where there is one (R601). -/
def Bus.bootByte (b : Bus) (a : Word) : Option Byte :=
  if b.bootMapped && decide (a.toNat ≤ 0x00FF) then b.params.bootRom.map (fun r => Memory.read r a.toNat) else none

/-- A ROM-range read: the overlay, else the controller (R86, R482). -/
def Bus.romView (b : Bus) (a : Word) : Byte :=
  match b.bootByte a with
  | some v => v
  | none => b.romRead a

/-- A DMA write (R481). -/
def Bus.writeDma (b : Bus) (v : Byte) : Bus :=
  { b with dma := { reg := v, st := .starting v (b.params.dmaStartup + 1) b.dma.st.blocksCpu } }

/-- `DmaSourceRead(a)` (R482). -/
def Bus.dmaSourceRead (b : Bus) (a : Word) : Byte :=
  match region a with
  | .rom => b.romView a
  | .vram => b.mem.read a.toNat
  | .extRam => b.ramRead a
  | _ => b.mem.read (wramKey (a.toNat &&& 0x1FFF))

/-- `DmaStep()`, step 3 of R85 (R483, R484). -/
def Bus.dmaStep (b : Bus) : Bus :=
  match b.dma.st with
  | .idle => b
  | .starting src n blocked =>
    let next := if 1 < n then DmaState.starting src (n - 1) blocked else .active src 0
    { b with dma := { b.dma with st := next } }
  | .active src i =>
    { b with
        mem := b.mem.write (oamKey i) (b.dmaSourceRead (BitVec.ofNat 16 (src.toNat * 0x100 + i)))
        dma := { b.dma with st := if i = 159 then .idle else .active src (i + 1) } }

/-- OAM bytes 8 .. 8 + n - 1 take free values (R520). -/
def havocOam (cycle : Nat) : Nat → Memory → Memory
  | 0, m => m
  | n + 1, m => (havocOam cycle n m).write (oamKey (8 + n)) (Config.oamHavoc cycle (8 + n))

/-- The OAM corruption condition (R520): `bus` is the Cpu access address or the incrementer value of the M-cycle. -/
def Bus.oamBugFires (b : Bus) (bus : Option Word) : Bool :=
  match bus with
  | none => false
  | some a =>
    decide (b.params.oamBug = .havoc) && b.ppu.lcdOn && decide (b.ppu.mode = .oamScan) &&
      decide (0xFE00 ≤ a.toNat) && decide (a.toNat ≤ 0xFEFF)

/-- The OAM corruption check, step 2 of R85 (R520): bytes 8..159. -/
def Bus.oamBugStep (b : Bus) (bus : Option Word) : Bus :=
  if b.oamBugFires bus then { b with mem := havocOam b.cycles 152 b.mem } else b

/-- Steps 2 to 6 of one M-cycle (R85): OAM bug, DMA, timer, PPU, joypad. `bus` is what R520 looks at. -/
def Bus.advance (b : Bus) (bus : Option Word) : Bus :=
  let b' := ((b.oamBugStep bus).dmaStep.timerMCycle.ppuMCycle).joypadSample
  { b' with cycles := b.cycles + 1 }

/-- The audio range (R97). -/
def isAudio (a : Word) : Bool := decide (0xFF10 ≤ a.toNat) && decide (a.toNat ≤ 0xFF3F)

/-- `IoRead(a)` (R57); the audio range is answered by the host (R97, log entry 7). -/
def Bus.ioRead (b : Bus) (a : Word) : Byte :=
  if isAudio a then Config.audioByte b.cycles a
  else
    match a.toNat with
    | 0xFF00 => b.joypad.readP1
    | 0xFF01 => b.serial.sb
    | 0xFF02 => b.serial.readSc
    | 0xFF04 => b.timer.div16.extractLsb' 8 8
    | 0xFF05 => b.timer.tima
    | 0xFF06 => b.timer.tma
    | 0xFF07 => 0b11111#5 ++ b.timer.tac
    | 0xFF0F => 0b111#3 ++ b.irq.iflag
    | 0xFF40 => b.ppu.lcdc
    | 0xFF41 => b.ppu.readStat b.params.line153LyQuirk
    | 0xFF42 => b.ppu.scy
    | 0xFF43 => b.ppu.scx
    | 0xFF44 => b.ppu.lyRead b.params.line153LyQuirk
    | 0xFF45 => b.ppu.lyc
    | 0xFF46 => b.dma.reg
    | 0xFF47 => b.ppu.bgp
    | 0xFF48 => b.ppu.obp0
    | 0xFF49 => b.ppu.obp1
    | 0xFF4A => b.ppu.wy
    | 0xFF4B => b.ppu.wx
    | _ => b.params.openBus

/-- `IoWrite(a, v)` (R57, R91); the audio range is handed to the host (R97). -/
def Bus.ioWrite (b : Bus) (a : Word) (v : Byte) : Bus :=
  if isAudio a then b.emit (.audioWrite a v)
  else
    match a.toNat with
    | 0xFF00 => { b with joypad := { b.joypad with p1sel := v.extractLsb' 4 2 } }
    | 0xFF01 => { b with serial := { b.serial with sb := v } }
    | 0xFF02 => { b with serial := b.serial.writeSc v }
    | 0xFF04 => b.setDivider 0
    | 0xFF05 => { b with timer := b.timer.writeTima v }
    | 0xFF06 => { b with timer := b.timer.writeTma v }
    | 0xFF07 => { b with timer := b.timer.writeTac v }
    | 0xFF0F => { b with irq := { b.irq with iflag := v.setWidth 5 } }
    | 0xFF40 => b.writeLcdc v
    | 0xFF41 => b.writeStat v
    | 0xFF42 => { b with ppu := { b.ppu with scy := v } }
    | 0xFF43 => { b with ppu := { b.ppu with scx := v } }
    | 0xFF45 => b.writeLyc v
    | 0xFF46 => b.writeDma v
    | 0xFF47 => { b with ppu := { b.ppu with bgp := v } }
    | 0xFF48 => { b with ppu := { b.ppu with obp0 := v } }
    | 0xFF49 => { b with ppu := { b.ppu with obp1 := v } }
    | 0xFF4A => { b with ppu := { b.ppu with wy := v } }
    | 0xFF4B => { b with ppu := { b.ppu with wx := v } }
    | 0xFF50 => if v.getLsbD 0 then { b with bootMapped := false } else b
    | _ => b

/-- `CpuRead(a)` (R86). -/
def Bus.cpuRead (b : Bus) (a : Word) : Byte :=
  if b.dmaBlocks a then b.params.openBus
  else
    match region a with
    | .rom => b.romView a
    | .vram => if b.vramBlocked then b.params.openBus else b.mem.read a.toNat
    | .extRam => b.ramRead a
    | .wram => b.mem.read a.toNat
    | .echo => b.mem.read (wramKey (a.toNat - 0xE000))
    | .oam => if b.oamBlocked then b.params.openBus else b.mem.read a.toNat
    | .unusable => b.params.openBus
    | .io => b.ioRead a
    | .hram => b.mem.read a.toNat
    | .ie => b.irq.ie

/-- The key of the memory byte that a Cpu write at `a` stores to; `none` where it stores to no memory byte: ROM, I/O, IE,
the unusable range, a blocked or absent memory (R87, R98, R99, R100, R113). -/
def Bus.storeKey (b : Bus) (a : Word) : Option Nat :=
  if b.dmaBlocks a then none
  else
    match region a with
    | .vram => if b.vramBlocked then none else some a.toNat
    | .extRam =>
      match b.cart.ramTarget a with
      | .byte o => some (extRamKey o)
      | .halfByte o => some (extRamKey o)
      | _ => none
    | .wram => some a.toNat
    | .echo => some (wramKey (a.toNat - 0xE000))
    | .oam => if b.oamBlocked then none else some a.toNat
    | .hram => some a.toNat
    | _ => none

/-- The byte stored: MBC2 keeps the low half only (R124). -/
def Bus.storeByte (b : Bus) (a : Word) (v : Byte) : Byte :=
  match region a, b.cart.ramTarget a with
  | .extRam, .halfByte _ => v &&& 0x0F
  | _, _ => v

/-- A write to a clock register goes to the host (R127); any other external RAM write without a byte is ignored (R113). -/
def Bus.ramControlWrite (b : Bus) (a : Word) (v : Byte) : Bus :=
  match b.cart.ramTarget a with
  | .clock reg => b.emit (.clockWrite reg v)
  | _ => b

/-- A write that stores to no memory byte (R87): cartridge control, I/O, IE, or ignored. -/
def Bus.sideWrite (b : Bus) (a : Word) (v : Byte) : Bus :=
  if b.dmaBlocks a then b
  else
    match region a with
    | .rom => b.controlWrite a v
    | .extRam => b.ramControlWrite a v
    | .io => b.ioWrite a v
    | .ie => { b with irq := { b.irq with ie := v } }
    | _ => b

/-- `CpuWrite(a, v)` (R87). -/
def Bus.cpuWrite (b : Bus) (a : Word) (v : Byte) : Bus :=
  match b.storeKey a with
  | some k => { b with mem := b.mem.write k (b.storeByte a v) }
  | none => b.sideWrite a v

end Sys2Proof.Machine
end

