-- ==== Sys2Proof/Syntax.lean ====
section
/-! DEFINITION. The instructions: one constructor for each row of spec/opcode_table.json, with the immediate operands that
follow the opcode (30_encoding.md R151, R157). Written from the maps of R160 and R164; the constructors with operands stand
first, because the compiler bounds the tag of a constructor with fields. -/

namespace Sys2Proof

/-- An instruction. `n` and `e` are the byte after the opcode, `nn` the little-endian word after it. -/
inductive Instr where
  /-- `LD BC,nn`, 0x01 (R230) -/
  | ldBcNn (nn : Word)
  /-- `LD B,n`, 0x06 (R201) -/
  | ldBN (n : Byte)
  /-- `LD (nn),SP`, 0x08 (R232) -/
  | ldAtNnSp (nn : Word)
  /-- `LD C,n`, 0x0E (R201) -/
  | ldCN (n : Byte)
  /-- `LD DE,nn`, 0x11 (R230) -/
  | ldDeNn (nn : Word)
  /-- `LD D,n`, 0x16 (R201) -/
  | ldDN (n : Byte)
  /-- `JR e`, 0x18 (R333) -/
  | jrE (e : Byte)
  /-- `LD E,n`, 0x1E (R201) -/
  | ldEN (n : Byte)
  /-- `JR NZ,e`, 0x20 (R334) -/
  | jrNzE (e : Byte)
  /-- `LD HL,nn`, 0x21 (R230) -/
  | ldHlNn (nn : Word)
  /-- `LD H,n`, 0x26 (R201) -/
  | ldHN (n : Byte)
  /-- `JR Z,e`, 0x28 (R334) -/
  | jrZE (e : Byte)
  /-- `LD L,n`, 0x2E (R201) -/
  | ldLN (n : Byte)
  /-- `JR NC,e`, 0x30 (R334) -/
  | jrNcE (e : Byte)
  /-- `LD SP,nn`, 0x31 (R230) -/
  | ldSpNn (nn : Word)
  /-- `LD (HL),n`, 0x36 (R204) -/
  | ldAtHlN (n : Byte)
  /-- `JR C,e`, 0x38 (R334) -/
  | jrCE (e : Byte)
  /-- `LD A,n`, 0x3E (R201) -/
  | ldAN (n : Byte)
  /-- `JP NZ,nn`, 0xC2 (R331) -/
  | jpNzNn (nn : Word)
  /-- `JP nn`, 0xC3 (R330) -/
  | jpNn (nn : Word)
  /-- `CALL NZ,nn`, 0xC4 (R336) -/
  | callNzNn (nn : Word)
  /-- `ADD A,n`, 0xC6 (R253) -/
  | addAN (n : Byte)
  /-- `JP Z,nn`, 0xCA (R331) -/
  | jpZNn (nn : Word)
  /-- `PREFIX CB`, 0xCB (R365) -/
  | prefixCb (op2 : Byte)
  /-- `CALL Z,nn`, 0xCC (R336) -/
  | callZNn (nn : Word)
  /-- `CALL nn`, 0xCD (R335) -/
  | callNn (nn : Word)
  /-- `ADC A,n`, 0xCE (R256) -/
  | adcAN (n : Byte)
  /-- `JP NC,nn`, 0xD2 (R331) -/
  | jpNcNn (nn : Word)
  /-- `CALL NC,nn`, 0xD4 (R336) -/
  | callNcNn (nn : Word)
  /-- `SUB n`, 0xD6 (R259) -/
  | subN (n : Byte)
  /-- `JP C,nn`, 0xDA (R331) -/
  | jpCNn (nn : Word)
  /-- `CALL C,nn`, 0xDC (R336) -/
  | callCNn (nn : Word)
  /-- `SBC A,n`, 0xDE (R262) -/
  | sbcAN (n : Byte)
  /-- `LDH (n),A`, 0xE0 (R212) -/
  | ldhAtNA (n : Byte)
  /-- `AND n`, 0xE6 (R265) -/
  | andN (n : Byte)
  /-- `ADD SP,e`, 0xE8 (R293) -/
  | addSpE (e : Byte)
  /-- `LD (nn),A`, 0xEA (R210) -/
  | ldAtNnA (nn : Word)
  /-- `XOR n`, 0xEE (R268) -/
  | xorN (n : Byte)
  /-- `LDH A,(n)`, 0xF0 (R211) -/
  | ldhAAtN (n : Byte)
  /-- `OR n`, 0xF6 (R271) -/
  | orN (n : Byte)
  /-- `LD HL,SP+e`, 0xF8 (R233) -/
  | ldHlSpE (e : Byte)
  /-- `LD A,(nn)`, 0xFA (R209) -/
  | ldAAtNn (nn : Word)
  /-- `CP n`, 0xFE (R274) -/
  | cpN (n : Byte)
  /-- `NOP`, 0x00 (R360) -/
  | nop
  /-- `LD (BC),A`, 0x02 (R207) -/
  | ldAtBcA
  /-- `INC BC`, 0x03 (R291) -/
  | incBc
  /-- `INC B`, 0x04 (R275) -/
  | incB
  /-- `DEC B`, 0x05 (R277) -/
  | decB
  /-- `RLCA`, 0x07 (R300) -/
  | rlca
  /-- `ADD HL,BC`, 0x09 (R290) -/
  | addHlBc
  /-- `LD A,(BC)`, 0x0A (R205) -/
  | ldAAtBc
  /-- `DEC BC`, 0x0B (R292) -/
  | decBc
  /-- `INC C`, 0x0C (R275) -/
  | incC
  /-- `DEC C`, 0x0D (R277) -/
  | decC
  /-- `RRCA`, 0x0F (R301) -/
  | rrca
  /-- `STOP`, 0x10 (R362) -/
  | stop
  /-- `LD (DE),A`, 0x12 (R208) -/
  | ldAtDeA
  /-- `INC DE`, 0x13 (R291) -/
  | incDe
  /-- `INC D`, 0x14 (R275) -/
  | incD
  /-- `DEC D`, 0x15 (R277) -/
  | decD
  /-- `RLA`, 0x17 (R302) -/
  | rla
  /-- `ADD HL,DE`, 0x19 (R290) -/
  | addHlDe
  /-- `LD A,(DE)`, 0x1A (R206) -/
  | ldAAtDe
  /-- `DEC DE`, 0x1B (R292) -/
  | decDe
  /-- `INC E`, 0x1C (R275) -/
  | incE
  /-- `DEC E`, 0x1D (R277) -/
  | decE
  /-- `RRA`, 0x1F (R303) -/
  | rra
  /-- `LD (HL+),A`, 0x22 (R217) -/
  | ldAtHlIncA
  /-- `INC HL`, 0x23 (R291) -/
  | incHl
  /-- `INC H`, 0x24 (R275) -/
  | incH
  /-- `DEC H`, 0x25 (R277) -/
  | decH
  /-- `DAA`, 0x27 (R279) -/
  | daa
  /-- `ADD HL,HL`, 0x29 (R290) -/
  | addHlHl
  /-- `LD A,(HL+)`, 0x2A (R215) -/
  | ldAAtHlInc
  /-- `DEC HL`, 0x2B (R292) -/
  | decHl
  /-- `INC L`, 0x2C (R275) -/
  | incL
  /-- `DEC L`, 0x2D (R277) -/
  | decL
  /-- `CPL`, 0x2F (R280) -/
  | cpl
  /-- `LD (HL-),A`, 0x32 (R218) -/
  | ldAtHlDecA
  /-- `INC SP`, 0x33 (R291) -/
  | incSp
  /-- `INC (HL)`, 0x34 (R276) -/
  | incAtHl
  /-- `DEC (HL)`, 0x35 (R278) -/
  | decAtHl
  /-- `SCF`, 0x37 (R281) -/
  | scf
  /-- `ADD HL,SP`, 0x39 (R290) -/
  | addHlSp
  /-- `LD A,(HL-)`, 0x3A (R216) -/
  | ldAAtHlDec
  /-- `DEC SP`, 0x3B (R292) -/
  | decSp
  /-- `INC A`, 0x3C (R275) -/
  | incA
  /-- `DEC A`, 0x3D (R277) -/
  | decA
  /-- `CCF`, 0x3F (R282) -/
  | ccf
  /-- `LD B,B`, 0x40 (R200) -/
  | ldBB
  /-- `LD B,C`, 0x41 (R200) -/
  | ldBC
  /-- `LD B,D`, 0x42 (R200) -/
  | ldBD
  /-- `LD B,E`, 0x43 (R200) -/
  | ldBE
  /-- `LD B,H`, 0x44 (R200) -/
  | ldBH
  /-- `LD B,L`, 0x45 (R200) -/
  | ldBL
  /-- `LD B,(HL)`, 0x46 (R202) -/
  | ldBAtHl
  /-- `LD B,A`, 0x47 (R200) -/
  | ldBA
  /-- `LD C,B`, 0x48 (R200) -/
  | ldCB
  /-- `LD C,C`, 0x49 (R200) -/
  | ldCC
  /-- `LD C,D`, 0x4A (R200) -/
  | ldCD
  /-- `LD C,E`, 0x4B (R200) -/
  | ldCE
  /-- `LD C,H`, 0x4C (R200) -/
  | ldCH
  /-- `LD C,L`, 0x4D (R200) -/
  | ldCL
  /-- `LD C,(HL)`, 0x4E (R202) -/
  | ldCAtHl
  /-- `LD C,A`, 0x4F (R200) -/
  | ldCA
  /-- `LD D,B`, 0x50 (R200) -/
  | ldDB
  /-- `LD D,C`, 0x51 (R200) -/
  | ldDC
  /-- `LD D,D`, 0x52 (R200) -/
  | ldDD
  /-- `LD D,E`, 0x53 (R200) -/
  | ldDE
  /-- `LD D,H`, 0x54 (R200) -/
  | ldDH
  /-- `LD D,L`, 0x55 (R200) -/
  | ldDL
  /-- `LD D,(HL)`, 0x56 (R202) -/
  | ldDAtHl
  /-- `LD D,A`, 0x57 (R200) -/
  | ldDA
  /-- `LD E,B`, 0x58 (R200) -/
  | ldEB
  /-- `LD E,C`, 0x59 (R200) -/
  | ldEC
  /-- `LD E,D`, 0x5A (R200) -/
  | ldED
  /-- `LD E,E`, 0x5B (R200) -/
  | ldEE
  /-- `LD E,H`, 0x5C (R200) -/
  | ldEH
  /-- `LD E,L`, 0x5D (R200) -/
  | ldEL
  /-- `LD E,(HL)`, 0x5E (R202) -/
  | ldEAtHl
  /-- `LD E,A`, 0x5F (R200) -/
  | ldEA
  /-- `LD H,B`, 0x60 (R200) -/
  | ldHB
  /-- `LD H,C`, 0x61 (R200) -/
  | ldHC
  /-- `LD H,D`, 0x62 (R200) -/
  | ldHD
  /-- `LD H,E`, 0x63 (R200) -/
  | ldHE
  /-- `LD H,H`, 0x64 (R200) -/
  | ldHH
  /-- `LD H,L`, 0x65 (R200) -/
  | ldHL
  /-- `LD H,(HL)`, 0x66 (R202) -/
  | ldHAtHl
  /-- `LD H,A`, 0x67 (R200) -/
  | ldHA
  /-- `LD L,B`, 0x68 (R200) -/
  | ldLB
  /-- `LD L,C`, 0x69 (R200) -/
  | ldLC
  /-- `LD L,D`, 0x6A (R200) -/
  | ldLD
  /-- `LD L,E`, 0x6B (R200) -/
  | ldLE
  /-- `LD L,H`, 0x6C (R200) -/
  | ldLH
  /-- `LD L,L`, 0x6D (R200) -/
  | ldLL
  /-- `LD L,(HL)`, 0x6E (R202) -/
  | ldLAtHl
  /-- `LD L,A`, 0x6F (R200) -/
  | ldLA
  /-- `LD (HL),B`, 0x70 (R203) -/
  | ldAtHlB
  /-- `LD (HL),C`, 0x71 (R203) -/
  | ldAtHlC
  /-- `LD (HL),D`, 0x72 (R203) -/
  | ldAtHlD
  /-- `LD (HL),E`, 0x73 (R203) -/
  | ldAtHlE
  /-- `LD (HL),H`, 0x74 (R203) -/
  | ldAtHlH
  /-- `LD (HL),L`, 0x75 (R203) -/
  | ldAtHlL
  /-- `HALT`, 0x76 (R361) -/
  | halt
  /-- `LD (HL),A`, 0x77 (R203) -/
  | ldAtHlA
  /-- `LD A,B`, 0x78 (R200) -/
  | ldAB
  /-- `LD A,C`, 0x79 (R200) -/
  | ldAC
  /-- `LD A,D`, 0x7A (R200) -/
  | ldAD
  /-- `LD A,E`, 0x7B (R200) -/
  | ldAE
  /-- `LD A,H`, 0x7C (R200) -/
  | ldAH
  /-- `LD A,L`, 0x7D (R200) -/
  | ldAL
  /-- `LD A,(HL)`, 0x7E (R202) -/
  | ldAAtHl
  /-- `LD A,A`, 0x7F (R200) -/
  | ldAA
  /-- `ADD A,B`, 0x80 (R251) -/
  | addAB
  /-- `ADD A,C`, 0x81 (R251) -/
  | addAC
  /-- `ADD A,D`, 0x82 (R251) -/
  | addAD
  /-- `ADD A,E`, 0x83 (R251) -/
  | addAE
  /-- `ADD A,H`, 0x84 (R251) -/
  | addAH
  /-- `ADD A,L`, 0x85 (R251) -/
  | addAL
  /-- `ADD A,(HL)`, 0x86 (R252) -/
  | addAAtHl
  /-- `ADD A,A`, 0x87 (R251) -/
  | addAA
  /-- `ADC A,B`, 0x88 (R254) -/
  | adcAB
  /-- `ADC A,C`, 0x89 (R254) -/
  | adcAC
  /-- `ADC A,D`, 0x8A (R254) -/
  | adcAD
  /-- `ADC A,E`, 0x8B (R254) -/
  | adcAE
  /-- `ADC A,H`, 0x8C (R254) -/
  | adcAH
  /-- `ADC A,L`, 0x8D (R254) -/
  | adcAL
  /-- `ADC A,(HL)`, 0x8E (R255) -/
  | adcAAtHl
  /-- `ADC A,A`, 0x8F (R254) -/
  | adcAA
  /-- `SUB B`, 0x90 (R257) -/
  | subB
  /-- `SUB C`, 0x91 (R257) -/
  | subC
  /-- `SUB D`, 0x92 (R257) -/
  | subD
  /-- `SUB E`, 0x93 (R257) -/
  | subE
  /-- `SUB H`, 0x94 (R257) -/
  | subH
  /-- `SUB L`, 0x95 (R257) -/
  | subL
  /-- `SUB (HL)`, 0x96 (R258) -/
  | subAtHl
  /-- `SUB A`, 0x97 (R257) -/
  | subA
  /-- `SBC A,B`, 0x98 (R260) -/
  | sbcAB
  /-- `SBC A,C`, 0x99 (R260) -/
  | sbcAC
  /-- `SBC A,D`, 0x9A (R260) -/
  | sbcAD
  /-- `SBC A,E`, 0x9B (R260) -/
  | sbcAE
  /-- `SBC A,H`, 0x9C (R260) -/
  | sbcAH
  /-- `SBC A,L`, 0x9D (R260) -/
  | sbcAL
  /-- `SBC A,(HL)`, 0x9E (R261) -/
  | sbcAAtHl
  /-- `SBC A,A`, 0x9F (R260) -/
  | sbcAA
  /-- `AND B`, 0xA0 (R263) -/
  | andB
  /-- `AND C`, 0xA1 (R263) -/
  | andC
  /-- `AND D`, 0xA2 (R263) -/
  | andD
  /-- `AND E`, 0xA3 (R263) -/
  | andE
  /-- `AND H`, 0xA4 (R263) -/
  | andH
  /-- `AND L`, 0xA5 (R263) -/
  | andL
  /-- `AND (HL)`, 0xA6 (R264) -/
  | andAtHl
  /-- `AND A`, 0xA7 (R263) -/
  | andA
  /-- `XOR B`, 0xA8 (R266) -/
  | xorB
  /-- `XOR C`, 0xA9 (R266) -/
  | xorC
  /-- `XOR D`, 0xAA (R266) -/
  | xorD
  /-- `XOR E`, 0xAB (R266) -/
  | xorE
  /-- `XOR H`, 0xAC (R266) -/
  | xorH
  /-- `XOR L`, 0xAD (R266) -/
  | xorL
  /-- `XOR (HL)`, 0xAE (R267) -/
  | xorAtHl
  /-- `XOR A`, 0xAF (R266) -/
  | xorA
  /-- `OR B`, 0xB0 (R269) -/
  | orB
  /-- `OR C`, 0xB1 (R269) -/
  | orC
  /-- `OR D`, 0xB2 (R269) -/
  | orD
  /-- `OR E`, 0xB3 (R269) -/
  | orE
  /-- `OR H`, 0xB4 (R269) -/
  | orH
  /-- `OR L`, 0xB5 (R269) -/
  | orL
  /-- `OR (HL)`, 0xB6 (R270) -/
  | orAtHl
  /-- `OR A`, 0xB7 (R269) -/
  | orA
  /-- `CP B`, 0xB8 (R272) -/
  | cpB
  /-- `CP C`, 0xB9 (R272) -/
  | cpC
  /-- `CP D`, 0xBA (R272) -/
  | cpD
  /-- `CP E`, 0xBB (R272) -/
  | cpE
  /-- `CP H`, 0xBC (R272) -/
  | cpH
  /-- `CP L`, 0xBD (R272) -/
  | cpL
  /-- `CP (HL)`, 0xBE (R273) -/
  | cpAtHl
  /-- `CP A`, 0xBF (R272) -/
  | cpA
  /-- `RET NZ`, 0xC0 (R338) -/
  | retNz
  /-- `POP BC`, 0xC1 (R236) -/
  | popBc
  /-- `PUSH BC`, 0xC5 (R235) -/
  | pushBc
  /-- `RST 0x00`, 0xC7 (R340) -/
  | rst00
  /-- `RET Z`, 0xC8 (R338) -/
  | retZ
  /-- `RET`, 0xC9 (R337) -/
  | ret
  /-- `RST 0x08`, 0xCF (R340) -/
  | rst08
  /-- `RET NC`, 0xD0 (R338) -/
  | retNc
  /-- `POP DE`, 0xD1 (R236) -/
  | popDe
  /-- `ILLEGAL_D3`, 0xD3 (R366) -/
  | illegalD3
  /-- `PUSH DE`, 0xD5 (R235) -/
  | pushDe
  /-- `RST 0x10`, 0xD7 (R340) -/
  | rst10
  /-- `RET C`, 0xD8 (R338) -/
  | retC
  /-- `RETI`, 0xD9 (R339) -/
  | reti
  /-- `ILLEGAL_DB`, 0xDB (R366) -/
  | illegalDB
  /-- `ILLEGAL_DD`, 0xDD (R366) -/
  | illegalDD
  /-- `RST 0x18`, 0xDF (R340) -/
  | rst18
  /-- `POP HL`, 0xE1 (R236) -/
  | popHl
  /-- `LDH (C),A`, 0xE2 (R214) -/
  | ldhAtCA
  /-- `ILLEGAL_E3`, 0xE3 (R366) -/
  | illegalE3
  /-- `ILLEGAL_E4`, 0xE4 (R366) -/
  | illegalE4
  /-- `PUSH HL`, 0xE5 (R235) -/
  | pushHl
  /-- `RST 0x20`, 0xE7 (R340) -/
  | rst20
  /-- `JP HL`, 0xE9 (R332) -/
  | jpHl
  /-- `ILLEGAL_EB`, 0xEB (R366) -/
  | illegalEB
  /-- `ILLEGAL_EC`, 0xEC (R366) -/
  | illegalEC
  /-- `ILLEGAL_ED`, 0xED (R366) -/
  | illegalED
  /-- `RST 0x28`, 0xEF (R340) -/
  | rst28
  /-- `POP AF`, 0xF1 (R236) -/
  | popAf
  /-- `LDH A,(C)`, 0xF2 (R213) -/
  | ldhAAtC
  /-- `DI`, 0xF3 (R363) -/
  | di
  /-- `ILLEGAL_F4`, 0xF4 (R366) -/
  | illegalF4
  /-- `PUSH AF`, 0xF5 (R235) -/
  | pushAf
  /-- `RST 0x30`, 0xF7 (R340) -/
  | rst30
  /-- `LD SP,HL`, 0xF9 (R231) -/
  | ldSpHl
  /-- `EI`, 0xFB (R364) -/
  | ei
  /-- `ILLEGAL_FC`, 0xFC (R366) -/
  | illegalFC
  /-- `ILLEGAL_FD`, 0xFD (R366) -/
  | illegalFD
  /-- `RST 0x38`, 0xFF (R340) -/
  | rst38
  /-- `RLC B`, 0xCB 0x00 (R305) -/
  | rlcB
  /-- `RLC C`, 0xCB 0x01 (R305) -/
  | rlcC
  /-- `RLC D`, 0xCB 0x02 (R305) -/
  | rlcD
  /-- `RLC E`, 0xCB 0x03 (R305) -/
  | rlcE
  /-- `RLC H`, 0xCB 0x04 (R305) -/
  | rlcH
  /-- `RLC L`, 0xCB 0x05 (R305) -/
  | rlcL
  /-- `RLC (HL)`, 0xCB 0x06 (R306) -/
  | rlcAtHl
  /-- `RLC A`, 0xCB 0x07 (R305) -/
  | rlcA
  /-- `RRC B`, 0xCB 0x08 (R307) -/
  | rrcB
  /-- `RRC C`, 0xCB 0x09 (R307) -/
  | rrcC
  /-- `RRC D`, 0xCB 0x0A (R307) -/
  | rrcD
  /-- `RRC E`, 0xCB 0x0B (R307) -/
  | rrcE
  /-- `RRC H`, 0xCB 0x0C (R307) -/
  | rrcH
  /-- `RRC L`, 0xCB 0x0D (R307) -/
  | rrcL
  /-- `RRC (HL)`, 0xCB 0x0E (R308) -/
  | rrcAtHl
  /-- `RRC A`, 0xCB 0x0F (R307) -/
  | rrcA
  /-- `RL B`, 0xCB 0x10 (R309) -/
  | rlB
  /-- `RL C`, 0xCB 0x11 (R309) -/
  | rlC
  /-- `RL D`, 0xCB 0x12 (R309) -/
  | rlD
  /-- `RL E`, 0xCB 0x13 (R309) -/
  | rlE
  /-- `RL H`, 0xCB 0x14 (R309) -/
  | rlH
  /-- `RL L`, 0xCB 0x15 (R309) -/
  | rlL
  /-- `RL (HL)`, 0xCB 0x16 (R310) -/
  | rlAtHl
  /-- `RL A`, 0xCB 0x17 (R309) -/
  | rlA
  /-- `RR B`, 0xCB 0x18 (R311) -/
  | rrB
  /-- `RR C`, 0xCB 0x19 (R311) -/
  | rrC
  /-- `RR D`, 0xCB 0x1A (R311) -/
  | rrD
  /-- `RR E`, 0xCB 0x1B (R311) -/
  | rrE
  /-- `RR H`, 0xCB 0x1C (R311) -/
  | rrH
  /-- `RR L`, 0xCB 0x1D (R311) -/
  | rrL
  /-- `RR (HL)`, 0xCB 0x1E (R312) -/
  | rrAtHl
  /-- `RR A`, 0xCB 0x1F (R311) -/
  | rrA
  /-- `SLA B`, 0xCB 0x20 (R313) -/
  | slaB
  /-- `SLA C`, 0xCB 0x21 (R313) -/
  | slaC
  /-- `SLA D`, 0xCB 0x22 (R313) -/
  | slaD
  /-- `SLA E`, 0xCB 0x23 (R313) -/
  | slaE
  /-- `SLA H`, 0xCB 0x24 (R313) -/
  | slaH
  /-- `SLA L`, 0xCB 0x25 (R313) -/
  | slaL
  /-- `SLA (HL)`, 0xCB 0x26 (R314) -/
  | slaAtHl
  /-- `SLA A`, 0xCB 0x27 (R313) -/
  | slaA
  /-- `SRA B`, 0xCB 0x28 (R315) -/
  | sraB
  /-- `SRA C`, 0xCB 0x29 (R315) -/
  | sraC
  /-- `SRA D`, 0xCB 0x2A (R315) -/
  | sraD
  /-- `SRA E`, 0xCB 0x2B (R315) -/
  | sraE
  /-- `SRA H`, 0xCB 0x2C (R315) -/
  | sraH
  /-- `SRA L`, 0xCB 0x2D (R315) -/
  | sraL
  /-- `SRA (HL)`, 0xCB 0x2E (R316) -/
  | sraAtHl
  /-- `SRA A`, 0xCB 0x2F (R315) -/
  | sraA
  /-- `SWAP B`, 0xCB 0x30 (R317) -/
  | swapB
  /-- `SWAP C`, 0xCB 0x31 (R317) -/
  | swapC
  /-- `SWAP D`, 0xCB 0x32 (R317) -/
  | swapD
  /-- `SWAP E`, 0xCB 0x33 (R317) -/
  | swapE
  /-- `SWAP H`, 0xCB 0x34 (R317) -/
  | swapH
  /-- `SWAP L`, 0xCB 0x35 (R317) -/
  | swapL
  /-- `SWAP (HL)`, 0xCB 0x36 (R318) -/
  | swapAtHl
  /-- `SWAP A`, 0xCB 0x37 (R317) -/
  | swapA
  /-- `SRL B`, 0xCB 0x38 (R319) -/
  | srlB
  /-- `SRL C`, 0xCB 0x39 (R319) -/
  | srlC
  /-- `SRL D`, 0xCB 0x3A (R319) -/
  | srlD
  /-- `SRL E`, 0xCB 0x3B (R319) -/
  | srlE
  /-- `SRL H`, 0xCB 0x3C (R319) -/
  | srlH
  /-- `SRL L`, 0xCB 0x3D (R319) -/
  | srlL
  /-- `SRL (HL)`, 0xCB 0x3E (R320) -/
  | srlAtHl
  /-- `SRL A`, 0xCB 0x3F (R319) -/
  | srlA
  /-- `BIT 0,B`, 0xCB 0x40 (R321) -/
  | bit0B
  /-- `BIT 0,C`, 0xCB 0x41 (R321) -/
  | bit0C
  /-- `BIT 0,D`, 0xCB 0x42 (R321) -/
  | bit0D
  /-- `BIT 0,E`, 0xCB 0x43 (R321) -/
  | bit0E
  /-- `BIT 0,H`, 0xCB 0x44 (R321) -/
  | bit0H
  /-- `BIT 0,L`, 0xCB 0x45 (R321) -/
  | bit0L
  /-- `BIT 0,(HL)`, 0xCB 0x46 (R322) -/
  | bit0AtHl
  /-- `BIT 0,A`, 0xCB 0x47 (R321) -/
  | bit0A
  /-- `BIT 1,B`, 0xCB 0x48 (R321) -/
  | bit1B
  /-- `BIT 1,C`, 0xCB 0x49 (R321) -/
  | bit1C
  /-- `BIT 1,D`, 0xCB 0x4A (R321) -/
  | bit1D
  /-- `BIT 1,E`, 0xCB 0x4B (R321) -/
  | bit1E
  /-- `BIT 1,H`, 0xCB 0x4C (R321) -/
  | bit1H
  /-- `BIT 1,L`, 0xCB 0x4D (R321) -/
  | bit1L
  /-- `BIT 1,(HL)`, 0xCB 0x4E (R322) -/
  | bit1AtHl
  /-- `BIT 1,A`, 0xCB 0x4F (R321) -/
  | bit1A
  /-- `BIT 2,B`, 0xCB 0x50 (R321) -/
  | bit2B
  /-- `BIT 2,C`, 0xCB 0x51 (R321) -/
  | bit2C
  /-- `BIT 2,D`, 0xCB 0x52 (R321) -/
  | bit2D
  /-- `BIT 2,E`, 0xCB 0x53 (R321) -/
  | bit2E
  /-- `BIT 2,H`, 0xCB 0x54 (R321) -/
  | bit2H
  /-- `BIT 2,L`, 0xCB 0x55 (R321) -/
  | bit2L
  /-- `BIT 2,(HL)`, 0xCB 0x56 (R322) -/
  | bit2AtHl
  /-- `BIT 2,A`, 0xCB 0x57 (R321) -/
  | bit2A
  /-- `BIT 3,B`, 0xCB 0x58 (R321) -/
  | bit3B
  /-- `BIT 3,C`, 0xCB 0x59 (R321) -/
  | bit3C
  /-- `BIT 3,D`, 0xCB 0x5A (R321) -/
  | bit3D
  /-- `BIT 3,E`, 0xCB 0x5B (R321) -/
  | bit3E
  /-- `BIT 3,H`, 0xCB 0x5C (R321) -/
  | bit3H
  /-- `BIT 3,L`, 0xCB 0x5D (R321) -/
  | bit3L
  /-- `BIT 3,(HL)`, 0xCB 0x5E (R322) -/
  | bit3AtHl
  /-- `BIT 3,A`, 0xCB 0x5F (R321) -/
  | bit3A
  /-- `BIT 4,B`, 0xCB 0x60 (R321) -/
  | bit4B
  /-- `BIT 4,C`, 0xCB 0x61 (R321) -/
  | bit4C
  /-- `BIT 4,D`, 0xCB 0x62 (R321) -/
  | bit4D
  /-- `BIT 4,E`, 0xCB 0x63 (R321) -/
  | bit4E
  /-- `BIT 4,H`, 0xCB 0x64 (R321) -/
  | bit4H
  /-- `BIT 4,L`, 0xCB 0x65 (R321) -/
  | bit4L
  /-- `BIT 4,(HL)`, 0xCB 0x66 (R322) -/
  | bit4AtHl
  /-- `BIT 4,A`, 0xCB 0x67 (R321) -/
  | bit4A
  /-- `BIT 5,B`, 0xCB 0x68 (R321) -/
  | bit5B
  /-- `BIT 5,C`, 0xCB 0x69 (R321) -/
  | bit5C
  /-- `BIT 5,D`, 0xCB 0x6A (R321) -/
  | bit5D
  /-- `BIT 5,E`, 0xCB 0x6B (R321) -/
  | bit5E
  /-- `BIT 5,H`, 0xCB 0x6C (R321) -/
  | bit5H
  /-- `BIT 5,L`, 0xCB 0x6D (R321) -/
  | bit5L
  /-- `BIT 5,(HL)`, 0xCB 0x6E (R322) -/
  | bit5AtHl
  /-- `BIT 5,A`, 0xCB 0x6F (R321) -/
  | bit5A
  /-- `BIT 6,B`, 0xCB 0x70 (R321) -/
  | bit6B
  /-- `BIT 6,C`, 0xCB 0x71 (R321) -/
  | bit6C
  /-- `BIT 6,D`, 0xCB 0x72 (R321) -/
  | bit6D
  /-- `BIT 6,E`, 0xCB 0x73 (R321) -/
  | bit6E
  /-- `BIT 6,H`, 0xCB 0x74 (R321) -/
  | bit6H
  /-- `BIT 6,L`, 0xCB 0x75 (R321) -/
  | bit6L
  /-- `BIT 6,(HL)`, 0xCB 0x76 (R322) -/
  | bit6AtHl
  /-- `BIT 6,A`, 0xCB 0x77 (R321) -/
  | bit6A
  /-- `BIT 7,B`, 0xCB 0x78 (R321) -/
  | bit7B
  /-- `BIT 7,C`, 0xCB 0x79 (R321) -/
  | bit7C
  /-- `BIT 7,D`, 0xCB 0x7A (R321) -/
  | bit7D
  /-- `BIT 7,E`, 0xCB 0x7B (R321) -/
  | bit7E
  /-- `BIT 7,H`, 0xCB 0x7C (R321) -/
  | bit7H
  /-- `BIT 7,L`, 0xCB 0x7D (R321) -/
  | bit7L
  /-- `BIT 7,(HL)`, 0xCB 0x7E (R322) -/
  | bit7AtHl
  /-- `BIT 7,A`, 0xCB 0x7F (R321) -/
  | bit7A
  /-- `RES 0,B`, 0xCB 0x80 (R323) -/
  | res0B
  /-- `RES 0,C`, 0xCB 0x81 (R323) -/
  | res0C
  /-- `RES 0,D`, 0xCB 0x82 (R323) -/
  | res0D
  /-- `RES 0,E`, 0xCB 0x83 (R323) -/
  | res0E
  /-- `RES 0,H`, 0xCB 0x84 (R323) -/
  | res0H
  /-- `RES 0,L`, 0xCB 0x85 (R323) -/
  | res0L
  /-- `RES 0,(HL)`, 0xCB 0x86 (R324) -/
  | res0AtHl
  /-- `RES 0,A`, 0xCB 0x87 (R323) -/
  | res0A
  /-- `RES 1,B`, 0xCB 0x88 (R323) -/
  | res1B
  /-- `RES 1,C`, 0xCB 0x89 (R323) -/
  | res1C
  /-- `RES 1,D`, 0xCB 0x8A (R323) -/
  | res1D
  /-- `RES 1,E`, 0xCB 0x8B (R323) -/
  | res1E
  /-- `RES 1,H`, 0xCB 0x8C (R323) -/
  | res1H
  /-- `RES 1,L`, 0xCB 0x8D (R323) -/
  | res1L
  /-- `RES 1,(HL)`, 0xCB 0x8E (R324) -/
  | res1AtHl
  /-- `RES 1,A`, 0xCB 0x8F (R323) -/
  | res1A
  /-- `RES 2,B`, 0xCB 0x90 (R323) -/
  | res2B
  /-- `RES 2,C`, 0xCB 0x91 (R323) -/
  | res2C
  /-- `RES 2,D`, 0xCB 0x92 (R323) -/
  | res2D
  /-- `RES 2,E`, 0xCB 0x93 (R323) -/
  | res2E
  /-- `RES 2,H`, 0xCB 0x94 (R323) -/
  | res2H
  /-- `RES 2,L`, 0xCB 0x95 (R323) -/
  | res2L
  /-- `RES 2,(HL)`, 0xCB 0x96 (R324) -/
  | res2AtHl
  /-- `RES 2,A`, 0xCB 0x97 (R323) -/
  | res2A
  /-- `RES 3,B`, 0xCB 0x98 (R323) -/
  | res3B
  /-- `RES 3,C`, 0xCB 0x99 (R323) -/
  | res3C
  /-- `RES 3,D`, 0xCB 0x9A (R323) -/
  | res3D
  /-- `RES 3,E`, 0xCB 0x9B (R323) -/
  | res3E
  /-- `RES 3,H`, 0xCB 0x9C (R323) -/
  | res3H
  /-- `RES 3,L`, 0xCB 0x9D (R323) -/
  | res3L
  /-- `RES 3,(HL)`, 0xCB 0x9E (R324) -/
  | res3AtHl
  /-- `RES 3,A`, 0xCB 0x9F (R323) -/
  | res3A
  /-- `RES 4,B`, 0xCB 0xA0 (R323) -/
  | res4B
  /-- `RES 4,C`, 0xCB 0xA1 (R323) -/
  | res4C
  /-- `RES 4,D`, 0xCB 0xA2 (R323) -/
  | res4D
  /-- `RES 4,E`, 0xCB 0xA3 (R323) -/
  | res4E
  /-- `RES 4,H`, 0xCB 0xA4 (R323) -/
  | res4H
  /-- `RES 4,L`, 0xCB 0xA5 (R323) -/
  | res4L
  /-- `RES 4,(HL)`, 0xCB 0xA6 (R324) -/
  | res4AtHl
  /-- `RES 4,A`, 0xCB 0xA7 (R323) -/
  | res4A
  /-- `RES 5,B`, 0xCB 0xA8 (R323) -/
  | res5B
  /-- `RES 5,C`, 0xCB 0xA9 (R323) -/
  | res5C
  /-- `RES 5,D`, 0xCB 0xAA (R323) -/
  | res5D
  /-- `RES 5,E`, 0xCB 0xAB (R323) -/
  | res5E
  /-- `RES 5,H`, 0xCB 0xAC (R323) -/
  | res5H
  /-- `RES 5,L`, 0xCB 0xAD (R323) -/
  | res5L
  /-- `RES 5,(HL)`, 0xCB 0xAE (R324) -/
  | res5AtHl
  /-- `RES 5,A`, 0xCB 0xAF (R323) -/
  | res5A
  /-- `RES 6,B`, 0xCB 0xB0 (R323) -/
  | res6B
  /-- `RES 6,C`, 0xCB 0xB1 (R323) -/
  | res6C
  /-- `RES 6,D`, 0xCB 0xB2 (R323) -/
  | res6D
  /-- `RES 6,E`, 0xCB 0xB3 (R323) -/
  | res6E
  /-- `RES 6,H`, 0xCB 0xB4 (R323) -/
  | res6H
  /-- `RES 6,L`, 0xCB 0xB5 (R323) -/
  | res6L
  /-- `RES 6,(HL)`, 0xCB 0xB6 (R324) -/
  | res6AtHl
  /-- `RES 6,A`, 0xCB 0xB7 (R323) -/
  | res6A
  /-- `RES 7,B`, 0xCB 0xB8 (R323) -/
  | res7B
  /-- `RES 7,C`, 0xCB 0xB9 (R323) -/
  | res7C
  /-- `RES 7,D`, 0xCB 0xBA (R323) -/
  | res7D
  /-- `RES 7,E`, 0xCB 0xBB (R323) -/
  | res7E
  /-- `RES 7,H`, 0xCB 0xBC (R323) -/
  | res7H
  /-- `RES 7,L`, 0xCB 0xBD (R323) -/
  | res7L
  /-- `RES 7,(HL)`, 0xCB 0xBE (R324) -/
  | res7AtHl
  /-- `RES 7,A`, 0xCB 0xBF (R323) -/
  | res7A
  /-- `SET 0,B`, 0xCB 0xC0 (R325) -/
  | set0B
  /-- `SET 0,C`, 0xCB 0xC1 (R325) -/
  | set0C
  /-- `SET 0,D`, 0xCB 0xC2 (R325) -/
  | set0D
  /-- `SET 0,E`, 0xCB 0xC3 (R325) -/
  | set0E
  /-- `SET 0,H`, 0xCB 0xC4 (R325) -/
  | set0H
  /-- `SET 0,L`, 0xCB 0xC5 (R325) -/
  | set0L
  /-- `SET 0,(HL)`, 0xCB 0xC6 (R326) -/
  | set0AtHl
  /-- `SET 0,A`, 0xCB 0xC7 (R325) -/
  | set0A
  /-- `SET 1,B`, 0xCB 0xC8 (R325) -/
  | set1B
  /-- `SET 1,C`, 0xCB 0xC9 (R325) -/
  | set1C
  /-- `SET 1,D`, 0xCB 0xCA (R325) -/
  | set1D
  /-- `SET 1,E`, 0xCB 0xCB (R325) -/
  | set1E
  /-- `SET 1,H`, 0xCB 0xCC (R325) -/
  | set1H
  /-- `SET 1,L`, 0xCB 0xCD (R325) -/
  | set1L
  /-- `SET 1,(HL)`, 0xCB 0xCE (R326) -/
  | set1AtHl
  /-- `SET 1,A`, 0xCB 0xCF (R325) -/
  | set1A
  /-- `SET 2,B`, 0xCB 0xD0 (R325) -/
  | set2B
  /-- `SET 2,C`, 0xCB 0xD1 (R325) -/
  | set2C
  /-- `SET 2,D`, 0xCB 0xD2 (R325) -/
  | set2D
  /-- `SET 2,E`, 0xCB 0xD3 (R325) -/
  | set2E
  /-- `SET 2,H`, 0xCB 0xD4 (R325) -/
  | set2H
  /-- `SET 2,L`, 0xCB 0xD5 (R325) -/
  | set2L
  /-- `SET 2,(HL)`, 0xCB 0xD6 (R326) -/
  | set2AtHl
  /-- `SET 2,A`, 0xCB 0xD7 (R325) -/
  | set2A
  /-- `SET 3,B`, 0xCB 0xD8 (R325) -/
  | set3B
  /-- `SET 3,C`, 0xCB 0xD9 (R325) -/
  | set3C
  /-- `SET 3,D`, 0xCB 0xDA (R325) -/
  | set3D
  /-- `SET 3,E`, 0xCB 0xDB (R325) -/
  | set3E
  /-- `SET 3,H`, 0xCB 0xDC (R325) -/
  | set3H
  /-- `SET 3,L`, 0xCB 0xDD (R325) -/
  | set3L
  /-- `SET 3,(HL)`, 0xCB 0xDE (R326) -/
  | set3AtHl
  /-- `SET 3,A`, 0xCB 0xDF (R325) -/
  | set3A
  /-- `SET 4,B`, 0xCB 0xE0 (R325) -/
  | set4B
  /-- `SET 4,C`, 0xCB 0xE1 (R325) -/
  | set4C
  /-- `SET 4,D`, 0xCB 0xE2 (R325) -/
  | set4D
  /-- `SET 4,E`, 0xCB 0xE3 (R325) -/
  | set4E
  /-- `SET 4,H`, 0xCB 0xE4 (R325) -/
  | set4H
  /-- `SET 4,L`, 0xCB 0xE5 (R325) -/
  | set4L
  /-- `SET 4,(HL)`, 0xCB 0xE6 (R326) -/
  | set4AtHl
  /-- `SET 4,A`, 0xCB 0xE7 (R325) -/
  | set4A
  /-- `SET 5,B`, 0xCB 0xE8 (R325) -/
  | set5B
  /-- `SET 5,C`, 0xCB 0xE9 (R325) -/
  | set5C
  /-- `SET 5,D`, 0xCB 0xEA (R325) -/
  | set5D
  /-- `SET 5,E`, 0xCB 0xEB (R325) -/
  | set5E
  /-- `SET 5,H`, 0xCB 0xEC (R325) -/
  | set5H
  /-- `SET 5,L`, 0xCB 0xED (R325) -/
  | set5L
  /-- `SET 5,(HL)`, 0xCB 0xEE (R326) -/
  | set5AtHl
  /-- `SET 5,A`, 0xCB 0xEF (R325) -/
  | set5A
  /-- `SET 6,B`, 0xCB 0xF0 (R325) -/
  | set6B
  /-- `SET 6,C`, 0xCB 0xF1 (R325) -/
  | set6C
  /-- `SET 6,D`, 0xCB 0xF2 (R325) -/
  | set6D
  /-- `SET 6,E`, 0xCB 0xF3 (R325) -/
  | set6E
  /-- `SET 6,H`, 0xCB 0xF4 (R325) -/
  | set6H
  /-- `SET 6,L`, 0xCB 0xF5 (R325) -/
  | set6L
  /-- `SET 6,(HL)`, 0xCB 0xF6 (R326) -/
  | set6AtHl
  /-- `SET 6,A`, 0xCB 0xF7 (R325) -/
  | set6A
  /-- `SET 7,B`, 0xCB 0xF8 (R325) -/
  | set7B
  /-- `SET 7,C`, 0xCB 0xF9 (R325) -/
  | set7C
  /-- `SET 7,D`, 0xCB 0xFA (R325) -/
  | set7D
  /-- `SET 7,E`, 0xCB 0xFB (R325) -/
  | set7E
  /-- `SET 7,H`, 0xCB 0xFC (R325) -/
  | set7H
  /-- `SET 7,L`, 0xCB 0xFD (R325) -/
  | set7L
  /-- `SET 7,(HL)`, 0xCB 0xFE (R326) -/
  | set7AtHl
  /-- `SET 7,A`, 0xCB 0xFF (R325) -/
  | set7A
  deriving DecidableEq, Repr

end Sys2Proof
end

