-- ==== Sys2Proof/WellFormed.lean ====
section
/-! DEFINITION. Which terms of `Instr` are whole instructions. The operand types fix every width, so one check is left. -/

namespace Sys2Proof

/-- `i` is an instruction by itself. The prefix is not: "0xCB is not an instruction by itself: it selects the prefixed map
for the next byte" (30_encoding.md R166); its words decode to the 256 prefixed instructions (log entry 17). -/
def Instr.wellFormed : Instr → Bool
  | .prefixCb _ => false
  | _ => true

end Sys2Proof
end

