-- ==== Sys2Proof/Machine/Flags.lean ====
section
/-! DEFINITION. The flag byte (10_state.md R37, R32) and every flag computation of the spec: 42_alu8.md R250, R275, R277,
R279, 41_load16.md R233, 43_alu16.md R290, 44_rotate_shift_bit.md R300 to R322. Carries are computed on the integers from
the operands before the operation (R38) and narrowed at the end. -/

namespace Sys2Proof.Machine

/-- `Z<<7 | N<<6 | H<<5 | C<<4`, bits 3:0 zero (R32, R37). -/
def packFlags (z n h c : Bool) : Byte :=
  BitVec.ofBool z ++ (BitVec.ofBool n ++ (BitVec.ofBool h ++ (BitVec.ofBool c ++ 0#4)))

/-- `Fz`, `Fn`, `Fh`, `Fc` (R37). -/
def Cpu.flagZ (c : Cpu) : Bool := c.f.getLsbD 7
def Cpu.flagN (c : Cpu) : Bool := c.f.getLsbD 6
def Cpu.flagH (c : Cpu) : Bool := c.f.getLsbD 5
def Cpu.flagC (c : Cpu) : Bool := c.f.getLsbD 4

/-- A result with the flag byte it sets. -/
structure FlagResult where
  res : Byte
  f : Byte
  deriving DecidableEq, Repr

/-- `add(a, v, c)` (R250). -/
def add8 (a v : Byte) (c : Bool) : FlagResult :=
  let res := BitVec.ofNat 8 (a.toNat + v.toNat + c.toNat)
  { res := res
    f := packFlags (res == 0) false
      (decide (a.toNat % 16 + v.toNat % 16 + c.toNat > 0x0F)) (decide (a.toNat + v.toNat + c.toNat > 0xFF)) }

/-- `sub(a, v, c)` (R250). -/
def sub8 (a v : Byte) (c : Bool) : FlagResult :=
  let res := BitVec.ofInt 8 ((a.toNat : Int) - v.toNat - c.toNat)
  { res := res
    f := packFlags (res == 0) true
      (decide ((a.toNat % 16 : Int) - (v.toNat % 16 : Int) - c.toNat < 0))
      (decide ((a.toNat : Int) - v.toNat - c.toNat < 0)) }

/-- `and(a, v)` (R250). -/
def and8 (a v : Byte) : FlagResult := { res := a &&& v, f := packFlags (a &&& v == 0) false true false }

/-- `xor(a, v)` (R250). -/
def xor8 (a v : Byte) : FlagResult := { res := a ^^^ v, f := packFlags (a ^^^ v == 0) false false false }

/-- `or(a, v)` (R250). -/
def or8 (a v : Byte) : FlagResult := { res := a ||| v, f := packFlags (a ||| v == 0) false false false }

/-- The arithmetic code of R155. -/
inductive AluOp where
  | add
  | adc
  | sub
  | sbc
  | and
  | xor
  | or
  | cp
  deriving DecidableEq, Repr

/-- The result and flags of each arithmetic code on A, the operand and the carry (R251 to R274). CP is SUB's; its result
is discarded by `Cpu.alu`. -/
def AluOp.apply (op : AluOp) (a v : Byte) (c : Bool) : FlagResult :=
  match op with
  | .add => add8 a v false
  | .adc => add8 a v c
  | .sub => sub8 a v false
  | .sbc => sub8 a v c
  | .and => and8 a v
  | .xor => xor8 a v
  | .or => or8 a v
  | .cp => sub8 a v false

/-- INC of a byte (R275): C is kept. -/
def inc8 (v : Byte) (c : Bool) : FlagResult :=
  let res := v + 1
  { res := res, f := packFlags (res == 0) false (v &&& 0x0F == 0x0F) c }

/-- DEC of a byte (R277): C is kept. -/
def dec8 (v : Byte) (c : Bool) : FlagResult :=
  let res := v - 1
  { res := res, f := packFlags (res == 0) true (v &&& 0x0F == 0x00) c }

/-- DAA's value and new carry after an addition (R279, `Fn = 0`). -/
def daaAdd (a : Byte) (h c : Bool) : Byte × Bool :=
  let high := c || decide (a.toNat > 0x99)
  let a1 := if high then a + 0x60 else a
  (if h || decide (a1.toNat % 16 > 0x09) then a1 + 0x06 else a1, high)

/-- DAA's value and carry after a subtraction (R279, `Fn = 1`). -/
def daaSub (a : Byte) (h c : Bool) : Byte × Bool :=
  let a1 := if c then a - 0x60 else a
  (if h then a1 - 0x06 else a1, c)

/-- DAA (R279): Z from the result, N unchanged, H 0, C the new carry. -/
def daa8 (a : Byte) (n h c : Bool) : FlagResult :=
  let r := if n then daaSub a h c else daaAdd a h c
  { res := r.1, f := packFlags (r.1 == 0) n false r.2 }

/-- The flags of `LD HL,SP+e` and `ADD SP,e` (R233, R293): from the unsigned low byte of SP and `u`. -/
def spOffsetFlags (sp : Word) (u : Byte) : Byte :=
  packFlags false false (decide (sp.toNat % 16 + u.toNat % 16 > 0x0F)) (decide (sp.toNat % 256 + u.toNat > 0xFF))

/-- The flags of `ADD HL,rr` (R290): Z kept, H from bit 11, C from bit 15. -/
def addHlFlags (hl rr : Word) (z : Bool) : Byte :=
  packFlags z false (decide (hl.toNat % 4096 + rr.toNat % 4096 > 0x0FFF)) (decide (hl.toNat + rr.toNat > 0xFFFF))

/-- The rotates and shifts of the prefixed table, `y` of R156. -/
inductive RotOp where
  | rlc
  | rrc
  | rl
  | rr
  | sla
  | sra
  | swap
  | srl
  deriving DecidableEq, Repr

/-- The result of each rotate or shift on `v` with carry-in `c` (R300 to R320). -/
def RotOp.result (op : RotOp) (v : Byte) (c : Bool) : Byte :=
  match op with
  | .rlc => v.extractLsb' 0 7 ++ v.extractLsb' 7 1
  | .rrc => v.extractLsb' 0 1 ++ v.extractLsb' 1 7
  | .rl => v.extractLsb' 0 7 ++ BitVec.ofBool c
  | .rr => BitVec.ofBool c ++ v.extractLsb' 1 7
  | .sla => v <<< 1
  | .sra => (v >>> 1) ||| (v &&& 0x80)
  | .swap => v.extractLsb' 0 4 ++ v.extractLsb' 4 4
  | .srl => v >>> 1

/-- The carry each leaves (R300 to R320). -/
def RotOp.carry (op : RotOp) (v : Byte) : Bool :=
  match op with
  | .rlc | .rl | .sla => v.getLsbD 7
  | .rrc | .rr | .sra | .srl => v.getLsbD 0
  | .swap => false

/-- A prefixed rotate or shift: Z from the result, N 0, H 0 (R305 to R320). -/
def RotOp.apply (op : RotOp) (v : Byte) (c : Bool) : FlagResult :=
  let res := op.result v c
  { res := res, f := packFlags (res == 0) false false (op.carry v) }

/-- An accumulator rotate: as the prefixed one, but Z is always 0 (R300 to R303). -/
def RotOp.applyA (op : RotOp) (v : Byte) (c : Bool) : FlagResult :=
  { res := op.result v c, f := packFlags false false false (op.carry v) }

/-- The flags of BIT (R321, R322): Z is the inverted bit, N 0, H 1, C kept. -/
def bitFlags (v : Byte) (bit : Nat) (c : Bool) : Byte := packFlags (!v.getLsbD bit) false true c

end Sys2Proof.Machine
end

