-- ==== Sys2Proof/Machine/Operands.lean ====
section
/-! DEFINITION. The operand forms of 30_encoding.md R152 to R157: registers, pairs, conditions, the operand code 6. -/

namespace Sys2Proof.Machine

/-- The seven registers of the 3-bit code (R152). -/
inductive Reg8 where
  | b
  | c
  | d
  | e
  | h
  | l
  | a
  deriving DecidableEq, Repr

/-- The pairs of `rp(p)` (R153). -/
inductive Pair where
  | bc
  | de
  | hl
  | sp
  deriving DecidableEq, Repr

/-- The pairs of `rp2(p)` (R153). -/
inductive StackPair where
  | bc
  | de
  | hl
  | af
  deriving DecidableEq, Repr

/-- The condition codes (R154, 00_scope.md R23). -/
inductive Cond where
  | nz
  | z
  | nc
  | c
  deriving DecidableEq, Repr

/-- `R8(code)` (R152): `none` is the memory operand at HL. -/
def reg8OfCode (code : BitVec 3) : Option Reg8 :=
  match code.toNat with
  | 0 => some .b
  | 1 => some .c
  | 2 => some .d
  | 3 => some .e
  | 4 => some .h
  | 5 => some .l
  | 6 => none
  | _ => some .a

/-- The rotate or shift of `y` (R156). -/
def rotOfCode (code : BitVec 3) : RotOp :=
  match code.toNat with
  | 0 => .rlc
  | 1 => .rrc
  | 2 => .rl
  | 3 => .rr
  | 4 => .sla
  | 5 => .sra
  | 6 => .swap
  | _ => .srl

/-- Read one 8-bit register (10_state.md R30). -/
def Cpu.reg (c : Cpu) : Reg8 → Byte
  | .b => c.b
  | .c => c.c
  | .d => c.d
  | .e => c.e
  | .h => c.h
  | .l => c.l
  | .a => c.a

/-- Write one 8-bit register. -/
def Cpu.setReg (c : Cpu) (r : Reg8) (v : Byte) : Cpu :=
  match r with
  | .b => { c with b := v }
  | .c => { c with c := v }
  | .d => { c with d := v }
  | .e => { c with e := v }
  | .h => { c with h := v }
  | .l => { c with l := v }
  | .a => { c with a := v }

/-- HL = H:L (R31). -/
def Cpu.hl (c : Cpu) : Word := joinBytes c.h c.l

/-- Write both halves of HL (R31). -/
def Cpu.setHl (c : Cpu) (v : Word) : Cpu := { c with h := highByte v, l := lowByte v }

/-- Read a pair of `rp` (R31, R153). -/
def Cpu.pair (c : Cpu) : Pair → Word
  | .bc => joinBytes c.b c.c
  | .de => joinBytes c.d c.e
  | .hl => c.hl
  | .sp => c.sp

/-- Write a pair of `rp` (R31, R153). -/
def Cpu.setPair (c : Cpu) (p : Pair) (v : Word) : Cpu :=
  match p with
  | .bc => { c with b := highByte v, c := lowByte v }
  | .de => { c with d := highByte v, e := lowByte v }
  | .hl => c.setHl v
  | .sp => { c with sp := v }

/-- Read a pair of `rp2` (R153). -/
def Cpu.stackPair (c : Cpu) : StackPair → Word
  | .bc => joinBytes c.b c.c
  | .de => joinBytes c.d c.e
  | .hl => c.hl
  | .af => joinBytes c.a c.f

/-- Write a pair of `rp2`; F keeps bits 7:4 only (R32, 41_load16.md R236). -/
def Cpu.setStackPair (c : Cpu) (p : StackPair) (v : Word) : Cpu :=
  match p with
  | .bc => { c with b := highByte v, c := lowByte v }
  | .de => { c with d := highByte v, e := lowByte v }
  | .hl => c.setHl v
  | .af => { c with a := highByte v, f := lowByte v &&& 0xF0 }

/-- `cond(cc)` (00_scope.md R23). -/
def Cpu.cond (c : Cpu) : Cond → Bool
  | .nz => !c.flagZ
  | .z => c.flagZ
  | .nc => !c.flagC
  | .c => c.flagC

/-- The high-page address `0xFF:n` of LDH (R157). -/
def highPage (n : Byte) : Word := joinBytes 0xFF n

end Sys2Proof.Machine
end

