-- ==== Sys2Proof/Machine/Ops.lean ====
section
/-! DEFINITION. The bus primitives of 00_scope.md R22 on the whole machine, the stack helpers (41_load16.md R234), taking an
interrupt (60_exceptions.md R412) and returning from one (45_control.md R337, R339), the end of an instruction (R411), the
invariants of R407 and the host's input between steps (R13). -/

namespace Sys2Proof.Machine

/-- The outcome of an instruction. -/
abbrev Result := Host.Outcome State Fault Refusal

/-- The Cpu part of a state changed by `g`. -/
def State.mapCpu (s : State) (g : Cpu → Cpu) : State := { s with cpu := g s.cpu }

/-- What `MemRead(a, 1)` returns (R22, 20_memory.md R86). -/
def State.readValue (s : State) (a : Word) : Byte := s.bus.cpuRead a

/-- The M-cycle of `MemRead(a, 1)` (R22): the devices advance. -/
def State.readCycle (s : State) (a : Word) : State := { s with bus := s.bus.advance (some a) }

/-- `MemWrite(a, 1, v)` (R22): the write, then the devices advance. -/
def State.writeCycle (s : State) (a : Word) (v : Byte) : State := { s with bus := (s.bus.cpuWrite a v).advance (some a) }

/-- `Internal()` (R22). -/
def State.internal (s : State) : State := { s with bus := s.bus.advance none }

/-- `Internal(idu = v)` (R22). -/
def State.internalIdu (s : State) (v : Word) : State := { s with bus := s.bus.advance (some v) }

/-- `repeat n times: Internal()` (R402, R416). -/
def State.internals : Nat → State → State
  | 0, s => s
  | n + 1, s => State.internals n s.internal

/-- `PushByte(v)` (R234). -/
def State.pushByte (s : State) (v : Byte) : State :=
  (s.mapCpu fun c => { c with sp := c.sp - 1 }).writeCycle (s.cpu.sp - 1) v

/-- The M-cycle of `PopByte()` (R234); the byte popped is `s.readValue s.cpu.sp`. -/
def State.popCycle (s : State) : State := (s.readCycle s.cpu.sp).mapCpu fun c => { c with sp := c.sp + 1 }

/-- Push a word, high byte first (R234). -/
def State.pushWord (s : State) (v : Word) : State := (s.pushByte (highByte v)).pushByte (lowByte v)

/-- The word that two `PopByte()` return, low byte first (R234). -/
def State.popValue (s : State) : Word := joinBytes (s.popCycle.readValue s.popCycle.cpu.sp) (s.readValue s.cpu.sp)

/-- The two M-cycles of popping a word. -/
def State.popCycles (s : State) : State := s.popCycle.popCycle

/-- `pc <- target` (R22). -/
def State.jump (s : State) (target : Word) : State := s.mapCpu fun c => { c with pc := target }

/-- Push pc and jump, after an internal M-cycle with SP on the incrementer: CALL and RST (45_control.md R335, R340). -/
def State.callTo (s : State) (target : Word) : State := ((s.internalIdu s.cpu.sp).pushWord s.cpu.pc).jump target

/-- Pop pc, with an internal M-cycle before it is loaded: RET, RETI (R337, R339). -/
def State.returnToCaller (s : State) : State := s.popCycles.internal.jump s.popValue

/-- `Internal`s aside, RETI is RET and sets IME at once (R339, R410, R420). -/
def State.returnFromInterrupt (s : State) : State := s.returnToCaller.mapCpu fun c => { c with ime := true, eiDelay := 0 }

/-- The lowest set bit (R412, R413). -/
def lowestSet (p : BitVec 5) : Option Nat :=
  if p.getLsbD 0 then some 0
  else if p.getLsbD 1 then some 1
  else if p.getLsbD 2 then some 2
  else if p.getLsbD 3 then some 3
  else if p.getLsbD 4 then some 4
  else none

/-- `IF[k] <- 0` (R412). -/
def Bus.acknowledge (b : Bus) (k : Nat) : Bus :=
  { b with irq := { b.irq with iflag := b.irq.iflag &&& ~~~ (1#5 <<< k) } }

/-- The vector `0x0040 + 8k` (10_state.md R46). -/
def vector (k : Nat) : Word := BitVec.ofNat 16 (0x40 + 8 * k)

/-- The address a dispatch pushes: that of the HALT itself under the halt bug (R412, R419). -/
def Cpu.dispatchReturn (c : Cpu) : Word := if c.haltBug then c.pc - 1 else c.pc

/-- `p` sampled after M3 chooses the vector (R412, R413): the request is cleared, or pc becomes 0 when none is left. -/
def State.takeVector (s : State) (p : BitVec 5) : State :=
  match lowestSet p with
  | none => s.jump 0x0000
  | some k => ({ s with bus := s.bus.acknowledge k } : State).jump (vector k)

/-- M1 to M3 of `Dispatch()` (R412): the latch cleared, two internal M-cycles, the high byte pushed. -/
def State.dispatchHigh (s : State) : State :=
  let s2 := (s.mapCpu fun c => { c with ime := false, eiDelay := 0 }).internal.internal
  (s2.mapCpu fun c => { c with haltBug := false }).pushByte (highByte s.cpu.dispatchReturn)

/-- `Dispatch()` (R412 to R414): taking an interrupt. -/
def State.dispatch (s : State) : State :=
  let s3 := s.dispatchHigh
  ((s3.pushByte (lowByte s.cpu.dispatchReturn)).takeVector s3.bus.pending).internal

/-- `EndOfInstruction()` (R411). -/
def State.endOfInstruction (s : State) : State :=
  s.mapCpu fun c =>
    if c.eiDelay = 2 then { c with eiDelay := 1 }
    else if c.eiDelay = 1 then { c with eiDelay := 0, ime := true }
    else c

/-- `raise UnimplementedOpcode(op, addr)` (R405, R366): the state it leaves, and the fault. -/
def State.raiseUnimplemented (s : State) (op : Byte) : Result :=
  .fault (.unimplementedOpcode op s.cpu.opAddr (s.mapCpu fun c => { c with run := .faulted op c.opAddr }))

/-- The first invariant of R407 that the state breaks. -/
def State.violation (s : State) : Option Invariant :=
  if s.cpu.eiDelay ≠ 0 ∧ s.cpu.ime = true then some .eiDelayWithIme
  else if (match s.bus.dma.st with | .active _ i => decide (159 < i) | _ => false) then some .dmaActiveRange
  else if (match s.bus.dma.st with
      | .starting _ n _ => decide (n < 1) || decide (s.bus.params.dmaStartup + 1 < n)
      | _ => false) then some .dmaStartingRange
  else if 455 < s.bus.ppu.dot then some .dotRange
  else if 153 < s.bus.ppu.ly then some .lyRange
  else if s.bus.ppu.lcdOn = false ∧ ¬ (s.bus.ppu.ly = 0 ∧ s.bus.ppu.dot = 0 ∧ s.bus.ppu.mode = .hblank) then
    some .lcdOffPosition
  else if 8 < s.bus.serial.bits then some .serialBitsRange
  else none

/-- The host's only input between steps: the button states (00_scope.md R7, R13, R462). -/
def State.withButtons (s : State) (x : Buttons) : State :=
  { s with bus := { s.bus with joypad := { s.bus.joypad with buttons := x } } }

end Sys2Proof.Machine
end

