-- ==== Sys2Proof/Machine/Alu16.lean ====
section
/-! DEFINITION. 16-bit arithmetic (43_alu16.md R290 to R294). -/

namespace Sys2Proof.Machine

/-- R290: add a pair to HL. -/
def addHlPair (p : Pair) (s : State) : Result :=
  .next (s.internal.mapCpu fun c =>
    { c.setHl (c.hl + c.pair p) with f := addHlFlags c.hl (c.pair p) c.flagZ })

/-- R291: increment a pair. -/
def incPair (p : Pair) (s : State) : Result :=
  .next ((s.internalIdu (s.cpu.pair p)).mapCpu fun c => c.setPair p (c.pair p + 1))

/-- R292: decrement a pair. -/
def decPair (p : Pair) (s : State) : Result :=
  .next ((s.internalIdu (s.cpu.pair p)).mapCpu fun c => c.setPair p (c.pair p - 1))

/-- `ADD HL,BC` (R290). -/
def execAddHlBc (s : State) : Result := addHlPair .bc s

/-- `ADD HL,DE` (R290). -/
def execAddHlDe (s : State) : Result := addHlPair .de s

/-- `ADD HL,HL` (R290). -/
def execAddHlHl (s : State) : Result := addHlPair .hl s

/-- `ADD HL,SP` (R290). -/
def execAddHlSp (s : State) : Result := addHlPair .sp s

/-- `INC BC` (R291). -/
def execIncBc (s : State) : Result := incPair .bc s

/-- `INC DE` (R291). -/
def execIncDe (s : State) : Result := incPair .de s

/-- `INC HL` (R291). -/
def execIncHl (s : State) : Result := incPair .hl s

/-- `INC SP` (R291). -/
def execIncSp (s : State) : Result := incPair .sp s

/-- `DEC BC` (R292). -/
def execDecBc (s : State) : Result := decPair .bc s

/-- `DEC DE` (R292). -/
def execDecDe (s : State) : Result := decPair .de s

/-- `DEC HL` (R292). -/
def execDecHl (s : State) : Result := decPair .hl s

/-- `DEC SP` (R292). -/
def execDecSp (s : State) : Result := decPair .sp s

/-- `ADD SP,e` (R293). -/
def execAddSpE (e : Byte) (s : State) : Result := 
  .next (s.internal.internal.mapCpu fun c => { c with sp := c.sp + sext16 e, f := spOffsetFlags c.sp e })

end Sys2Proof.Machine
end

