-- ==== Sys2Proof/Machine/Alu8.lean ====
section
/-! DEFINITION. 8-bit arithmetic and logic (42_alu8.md R250 to R283). -/

namespace Sys2Proof.Machine

/-- One arithmetic code on A and `v` (R251 to R274): A takes the result, but for CP, which discards it (R272). -/
def Cpu.alu (c : Cpu) (op : AluOp) (v : Byte) : Cpu :=
  let r := op.apply c.a v c.flagC
  match op with
  | .cp => { c with f := r.f }
  | _ => { c with a := r.res, f := r.f }

/-- A register operand: 1 M-cycle, the fetch. -/
def aluReg (op : AluOp) (r : Reg8) (s : State) : Result := .next (s.mapCpu fun c => c.alu op (c.reg r))

/-- The byte at HL: one read M-cycle. -/
def aluMem (op : AluOp) (s : State) : Result :=
  .next ((s.readCycle s.cpu.hl).mapCpu fun c => c.alu op (s.readValue s.cpu.hl))

/-- An immediate byte. -/
def aluImm (op : AluOp) (n : Byte) (s : State) : Result := .next (s.mapCpu fun c => c.alu op n)

/-- INC or DEC of a register (R275, R277). -/
def stepReg (g : Byte → Bool → FlagResult) (r : Reg8) (s : State) : Result :=
  .next (s.mapCpu fun c => { c.setReg r (g (c.reg r) c.flagC).res with f := (g (c.reg r) c.flagC).f })

/-- A read M-cycle and a write M-cycle at HL with flags from the byte read (R276, R278, and the prefixed rotates on (HL)). -/
def modifyMem (g : Byte → Bool → FlagResult) (s : State) : Result :=
  let r := g (s.readValue s.cpu.hl) s.cpu.flagC
  .next (((s.readCycle s.cpu.hl).writeCycle s.cpu.hl r.res).mapCpu fun c => { c with f := r.f })

/-- `ADD A,B` (R251). -/
def execAddAB (s : State) : Result := aluReg .add .b s

/-- `ADD A,C` (R251). -/
def execAddAC (s : State) : Result := aluReg .add .c s

/-- `ADD A,D` (R251). -/
def execAddAD (s : State) : Result := aluReg .add .d s

/-- `ADD A,E` (R251). -/
def execAddAE (s : State) : Result := aluReg .add .e s

/-- `ADD A,H` (R251). -/
def execAddAH (s : State) : Result := aluReg .add .h s

/-- `ADD A,L` (R251). -/
def execAddAL (s : State) : Result := aluReg .add .l s

/-- `ADD A,A` (R251). -/
def execAddAA (s : State) : Result := aluReg .add .a s

/-- `ADD A,(HL)` (R252). -/
def execAddAAtHl (s : State) : Result := aluMem .add s

/-- `ADD A,n` (R253). -/
def execAddAN (n : Byte) (s : State) : Result := aluImm .add n s

/-- `ADC A,B` (R254). -/
def execAdcAB (s : State) : Result := aluReg .adc .b s

/-- `ADC A,C` (R254). -/
def execAdcAC (s : State) : Result := aluReg .adc .c s

/-- `ADC A,D` (R254). -/
def execAdcAD (s : State) : Result := aluReg .adc .d s

/-- `ADC A,E` (R254). -/
def execAdcAE (s : State) : Result := aluReg .adc .e s

/-- `ADC A,H` (R254). -/
def execAdcAH (s : State) : Result := aluReg .adc .h s

/-- `ADC A,L` (R254). -/
def execAdcAL (s : State) : Result := aluReg .adc .l s

/-- `ADC A,A` (R254). -/
def execAdcAA (s : State) : Result := aluReg .adc .a s

/-- `ADC A,(HL)` (R255). -/
def execAdcAAtHl (s : State) : Result := aluMem .adc s

/-- `ADC A,n` (R256). -/
def execAdcAN (n : Byte) (s : State) : Result := aluImm .adc n s

/-- `SUB B` (R257). -/
def execSubB (s : State) : Result := aluReg .sub .b s

/-- `SUB C` (R257). -/
def execSubC (s : State) : Result := aluReg .sub .c s

/-- `SUB D` (R257). -/
def execSubD (s : State) : Result := aluReg .sub .d s

/-- `SUB E` (R257). -/
def execSubE (s : State) : Result := aluReg .sub .e s

/-- `SUB H` (R257). -/
def execSubH (s : State) : Result := aluReg .sub .h s

/-- `SUB L` (R257). -/
def execSubL (s : State) : Result := aluReg .sub .l s

/-- `SUB A` (R257). -/
def execSubA (s : State) : Result := aluReg .sub .a s

/-- `SUB (HL)` (R258). -/
def execSubAtHl (s : State) : Result := aluMem .sub s

/-- `SUB n` (R259). -/
def execSubN (n : Byte) (s : State) : Result := aluImm .sub n s

/-- `SBC A,B` (R260). -/
def execSbcAB (s : State) : Result := aluReg .sbc .b s

/-- `SBC A,C` (R260). -/
def execSbcAC (s : State) : Result := aluReg .sbc .c s

/-- `SBC A,D` (R260). -/
def execSbcAD (s : State) : Result := aluReg .sbc .d s

/-- `SBC A,E` (R260). -/
def execSbcAE (s : State) : Result := aluReg .sbc .e s

/-- `SBC A,H` (R260). -/
def execSbcAH (s : State) : Result := aluReg .sbc .h s

/-- `SBC A,L` (R260). -/
def execSbcAL (s : State) : Result := aluReg .sbc .l s

/-- `SBC A,A` (R260). -/
def execSbcAA (s : State) : Result := aluReg .sbc .a s

/-- `SBC A,(HL)` (R261). -/
def execSbcAAtHl (s : State) : Result := aluMem .sbc s

/-- `SBC A,n` (R262). -/
def execSbcAN (n : Byte) (s : State) : Result := aluImm .sbc n s

/-- `AND B` (R263). -/
def execAndB (s : State) : Result := aluReg .and .b s

/-- `AND C` (R263). -/
def execAndC (s : State) : Result := aluReg .and .c s

/-- `AND D` (R263). -/
def execAndD (s : State) : Result := aluReg .and .d s

/-- `AND E` (R263). -/
def execAndE (s : State) : Result := aluReg .and .e s

/-- `AND H` (R263). -/
def execAndH (s : State) : Result := aluReg .and .h s

/-- `AND L` (R263). -/
def execAndL (s : State) : Result := aluReg .and .l s

/-- `AND A` (R263). -/
def execAndA (s : State) : Result := aluReg .and .a s

/-- `AND (HL)` (R264). -/
def execAndAtHl (s : State) : Result := aluMem .and s

/-- `AND n` (R265). -/
def execAndN (n : Byte) (s : State) : Result := aluImm .and n s

/-- `XOR B` (R266). -/
def execXorB (s : State) : Result := aluReg .xor .b s

/-- `XOR C` (R266). -/
def execXorC (s : State) : Result := aluReg .xor .c s

/-- `XOR D` (R266). -/
def execXorD (s : State) : Result := aluReg .xor .d s

/-- `XOR E` (R266). -/
def execXorE (s : State) : Result := aluReg .xor .e s

/-- `XOR H` (R266). -/
def execXorH (s : State) : Result := aluReg .xor .h s

/-- `XOR L` (R266). -/
def execXorL (s : State) : Result := aluReg .xor .l s

/-- `XOR A` (R266). -/
def execXorA (s : State) : Result := aluReg .xor .a s

/-- `XOR (HL)` (R267). -/
def execXorAtHl (s : State) : Result := aluMem .xor s

/-- `XOR n` (R268). -/
def execXorN (n : Byte) (s : State) : Result := aluImm .xor n s

/-- `OR B` (R269). -/
def execOrB (s : State) : Result := aluReg .or .b s

/-- `OR C` (R269). -/
def execOrC (s : State) : Result := aluReg .or .c s

/-- `OR D` (R269). -/
def execOrD (s : State) : Result := aluReg .or .d s

/-- `OR E` (R269). -/
def execOrE (s : State) : Result := aluReg .or .e s

/-- `OR H` (R269). -/
def execOrH (s : State) : Result := aluReg .or .h s

/-- `OR L` (R269). -/
def execOrL (s : State) : Result := aluReg .or .l s

/-- `OR A` (R269). -/
def execOrA (s : State) : Result := aluReg .or .a s

/-- `OR (HL)` (R270). -/
def execOrAtHl (s : State) : Result := aluMem .or s

/-- `OR n` (R271). -/
def execOrN (n : Byte) (s : State) : Result := aluImm .or n s

/-- `CP B` (R272). -/
def execCpB (s : State) : Result := aluReg .cp .b s

/-- `CP C` (R272). -/
def execCpC (s : State) : Result := aluReg .cp .c s

/-- `CP D` (R272). -/
def execCpD (s : State) : Result := aluReg .cp .d s

/-- `CP E` (R272). -/
def execCpE (s : State) : Result := aluReg .cp .e s

/-- `CP H` (R272). -/
def execCpH (s : State) : Result := aluReg .cp .h s

/-- `CP L` (R272). -/
def execCpL (s : State) : Result := aluReg .cp .l s

/-- `CP A` (R272). -/
def execCpA (s : State) : Result := aluReg .cp .a s

/-- `CP (HL)` (R273). -/
def execCpAtHl (s : State) : Result := aluMem .cp s

/-- `CP n` (R274). -/
def execCpN (n : Byte) (s : State) : Result := aluImm .cp n s

/-- `INC B` (R275). -/
def execIncB (s : State) : Result := stepReg inc8 .b s

/-- `INC C` (R275). -/
def execIncC (s : State) : Result := stepReg inc8 .c s

/-- `INC D` (R275). -/
def execIncD (s : State) : Result := stepReg inc8 .d s

/-- `INC E` (R275). -/
def execIncE (s : State) : Result := stepReg inc8 .e s

/-- `INC H` (R275). -/
def execIncH (s : State) : Result := stepReg inc8 .h s

/-- `INC L` (R275). -/
def execIncL (s : State) : Result := stepReg inc8 .l s

/-- `INC A` (R275). -/
def execIncA (s : State) : Result := stepReg inc8 .a s

/-- `INC (HL)` (R276). -/
def execIncAtHl (s : State) : Result := modifyMem inc8 s

/-- `DEC B` (R277). -/
def execDecB (s : State) : Result := stepReg dec8 .b s

/-- `DEC C` (R277). -/
def execDecC (s : State) : Result := stepReg dec8 .c s

/-- `DEC D` (R277). -/
def execDecD (s : State) : Result := stepReg dec8 .d s

/-- `DEC E` (R277). -/
def execDecE (s : State) : Result := stepReg dec8 .e s

/-- `DEC H` (R277). -/
def execDecH (s : State) : Result := stepReg dec8 .h s

/-- `DEC L` (R277). -/
def execDecL (s : State) : Result := stepReg dec8 .l s

/-- `DEC A` (R277). -/
def execDecA (s : State) : Result := stepReg dec8 .a s

/-- `DEC (HL)` (R278). -/
def execDecAtHl (s : State) : Result := modifyMem dec8 s

/-- `DAA` (R279). -/
def execDaa (s : State) : Result := 
  .next (s.mapCpu fun c =>
    let r := daa8 c.a c.flagN c.flagH c.flagC
    { c with a := r.res, f := r.f })

/-- `CPL` (R280). -/
def execCpl (s : State) : Result := 
  .next (s.mapCpu fun c => { c with a := ~~~ c.a, f := packFlags c.flagZ true true c.flagC })

/-- `SCF` (R281). -/
def execScf (s : State) : Result := 
  .next (s.mapCpu fun c => { c with f := packFlags c.flagZ false false true })

/-- `CCF` (R282). -/
def execCcf (s : State) : Result := 
  .next (s.mapCpu fun c => { c with f := packFlags c.flagZ false false (!c.flagC) })

end Sys2Proof.Machine
end

