-- ==== Sys2Proof/Machine/Control.lean ====
section
/-! DEFINITION. Control transfer (45_control.md R330 to R342). pc holds the address after the instruction. -/

namespace Sys2Proof.Machine

/-- R330: an internal M-cycle, then the jump. -/
def jumpTo (target : Word) (s : State) : Result := .next (s.internal.jump target)

/-- The target of a relative jump (R333, 30_encoding.md R157). -/
def relative (s : State) (e : Byte) : Word := s.cpu.pc + sext16 e

/-- R331, R334: the M-cycle and the jump only when the condition holds. -/
def jumpIf (cc : Cond) (target : Word) (s : State) : Result := if s.cpu.cond cc then jumpTo target s else .next s

/-- R335: push the return address and jump. -/
def call (target : Word) (s : State) : Result := .next (s.callTo target)

/-- R336: conditional call. -/
def callIf (cc : Cond) (target : Word) (s : State) : Result := if s.cpu.cond cc then call target s else .next s

/-- R338: conditional return; the test costs an M-cycle of its own. -/
def retIf (cc : Cond) (s : State) : Result :=
  if s.cpu.cond cc then .next s.internal.returnToCaller else .next s.internal

/-- R340: RST. -/
def restart (t : Byte) (s : State) : Result := .next (s.callTo (t.setWidth 16))

/-- `JP nn` (R330). -/
def execJpNn (nn : Word) (s : State) : Result := jumpTo nn s

/-- `JP NZ,nn` (R331). -/
def execJpNzNn (nn : Word) (s : State) : Result := jumpIf .nz nn s

/-- `JP Z,nn` (R331). -/
def execJpZNn (nn : Word) (s : State) : Result := jumpIf .z nn s

/-- `JP NC,nn` (R331). -/
def execJpNcNn (nn : Word) (s : State) : Result := jumpIf .nc nn s

/-- `JP C,nn` (R331). -/
def execJpCNn (nn : Word) (s : State) : Result := jumpIf .c nn s

/-- `JP HL` (R332). -/
def execJpHl (s : State) : Result := .next (s.jump s.cpu.hl)

/-- `JR e` (R333). -/
def execJrE (e : Byte) (s : State) : Result := jumpTo (relative s e) s

/-- `JR NZ,e` (R334). -/
def execJrNzE (e : Byte) (s : State) : Result := jumpIf .nz (relative s e) s

/-- `JR Z,e` (R334). -/
def execJrZE (e : Byte) (s : State) : Result := jumpIf .z (relative s e) s

/-- `JR NC,e` (R334). -/
def execJrNcE (e : Byte) (s : State) : Result := jumpIf .nc (relative s e) s

/-- `JR C,e` (R334). -/
def execJrCE (e : Byte) (s : State) : Result := jumpIf .c (relative s e) s

/-- `CALL nn` (R335). -/
def execCallNn (nn : Word) (s : State) : Result := call nn s

/-- `CALL NZ,nn` (R336). -/
def execCallNzNn (nn : Word) (s : State) : Result := callIf .nz nn s

/-- `CALL Z,nn` (R336). -/
def execCallZNn (nn : Word) (s : State) : Result := callIf .z nn s

/-- `CALL NC,nn` (R336). -/
def execCallNcNn (nn : Word) (s : State) : Result := callIf .nc nn s

/-- `CALL C,nn` (R336). -/
def execCallCNn (nn : Word) (s : State) : Result := callIf .c nn s

/-- `RET` (R337). -/
def execRet (s : State) : Result := .next s.returnToCaller

/-- `RET NZ` (R338). -/
def execRetNz (s : State) : Result := retIf .nz s

/-- `RET Z` (R338). -/
def execRetZ (s : State) : Result := retIf .z s

/-- `RET NC` (R338). -/
def execRetNc (s : State) : Result := retIf .nc s

/-- `RET C` (R338). -/
def execRetC (s : State) : Result := retIf .c s

/-- `RETI` (R339). -/
def execReti (s : State) : Result := .next s.returnFromInterrupt

/-- `RST 0x00` (R340). -/
def execRst00 (s : State) : Result := restart 0x00 s

/-- `RST 0x08` (R340). -/
def execRst08 (s : State) : Result := restart 0x08 s

/-- `RST 0x10` (R340). -/
def execRst10 (s : State) : Result := restart 0x10 s

/-- `RST 0x18` (R340). -/
def execRst18 (s : State) : Result := restart 0x18 s

/-- `RST 0x20` (R340). -/
def execRst20 (s : State) : Result := restart 0x20 s

/-- `RST 0x28` (R340). -/
def execRst28 (s : State) : Result := restart 0x28 s

/-- `RST 0x30` (R340). -/
def execRst30 (s : State) : Result := restart 0x30 s

/-- `RST 0x38` (R340). -/
def execRst38 (s : State) : Result := restart 0x38 s

end Sys2Proof.Machine
end

