-- ==== Sys2Proof/Machine/Load16.lean ====
section
/-! DEFINITION. The 16-bit loads and the stack (41_load16.md R230 to R237). -/

namespace Sys2Proof.Machine

/-- R230: load a 16-bit immediate into a pair. -/
def ldPairImm (p : Pair) (nn : Word) (s : State) : Result := .next (s.mapCpu fun c => c.setPair p nn)

/-- R235: push a pair, after an internal M-cycle with SP on the incrementer. -/
def pushPair (p : StackPair) (s : State) : Result := .next ((s.internalIdu s.cpu.sp).pushWord (s.cpu.stackPair p))

/-- R236: pop a pair. -/
def popPair (p : StackPair) (s : State) : Result := .next (s.popCycles.mapCpu fun c => c.setStackPair p s.popValue)

/-- `LD BC,nn` (R230). -/
def execLdBcNn (nn : Word) (s : State) : Result := ldPairImm .bc nn s

/-- `LD DE,nn` (R230). -/
def execLdDeNn (nn : Word) (s : State) : Result := ldPairImm .de nn s

/-- `LD HL,nn` (R230). -/
def execLdHlNn (nn : Word) (s : State) : Result := ldPairImm .hl nn s

/-- `LD SP,nn` (R230). -/
def execLdSpNn (nn : Word) (s : State) : Result := ldPairImm .sp nn s

/-- `LD SP,HL` (R231). -/
def execLdSpHl (s : State) : Result := 
  .next ((s.internalIdu s.cpu.hl).mapCpu fun c => { c with sp := s.cpu.hl })

/-- `LD (nn),SP` (R232). -/
def execLdAtNnSp (nn : Word) (s : State) : Result := 
  .next ((s.writeCycle nn (lowByte s.cpu.sp)).writeCycle (nn + 1) (highByte s.cpu.sp))

/-- `LD HL,SP+e` (R233). -/
def execLdHlSpE (e : Byte) (s : State) : Result := 
  .next (s.internal.mapCpu fun c => { c.setHl (c.sp + sext16 e) with f := spOffsetFlags c.sp e })

/-- `PUSH BC` (R235). -/
def execPushBc (s : State) : Result := pushPair .bc s

/-- `PUSH DE` (R235). -/
def execPushDe (s : State) : Result := pushPair .de s

/-- `PUSH HL` (R235). -/
def execPushHl (s : State) : Result := pushPair .hl s

/-- `PUSH AF` (R235). -/
def execPushAf (s : State) : Result := pushPair .af s

/-- `POP BC` (R236). -/
def execPopBc (s : State) : Result := popPair .bc s

/-- `POP DE` (R236). -/
def execPopDe (s : State) : Result := popPair .de s

/-- `POP HL` (R236). -/
def execPopHl (s : State) : Result := popPair .hl s

/-- `POP AF` (R236). -/
def execPopAf (s : State) : Result := popPair .af s

end Sys2Proof.Machine
end

