-- ==== Sys2Proof/Machine/Load8.lean ====
section
/-! DEFINITION. The 8-bit loads (40_load8.md R200 to R219). A meaning starts after the last fetched byte of the instruction (log entry 15). -/

namespace Sys2Proof.Machine

/-- R200: copy one register into another. -/
def ldRegReg (r r' : Reg8) (s : State) : Result := .next (s.mapCpu fun c => c.setReg r (c.reg r'))

/-- R201: load an immediate byte. -/
def ldRegImm (r : Reg8) (n : Byte) (s : State) : Result := .next (s.mapCpu fun c => c.setReg r n)

/-- R202, R205, R206, R209, R211, R213: one read M-cycle at `a`, into a register. -/
def ldRegMem (r : Reg8) (a : Word) (s : State) : Result :=
  .next ((s.readCycle a).mapCpu fun c => c.setReg r (s.readValue a))

/-- R203, R204, R207, R208, R210, R212, R214: one write M-cycle at `a`. -/
def ldMem (a : Word) (v : Byte) (s : State) : Result := .next (s.writeCycle a v)

/-- R215, R216: load A from HL, then HL takes `hl'`. -/
def ldAHlStep (hl' : Word) (s : State) : Result :=
  .next ((s.readCycle s.cpu.hl).mapCpu fun c => (c.setReg .a (s.readValue s.cpu.hl)).setHl hl')

/-- R217, R218: store A at HL, then HL takes `hl'`. -/
def ldHlStepA (hl' : Word) (s : State) : Result :=
  .next ((s.writeCycle s.cpu.hl s.cpu.a).mapCpu fun c => c.setHl hl')

/-- `LD B,B` (R200). -/
def execLdBB (s : State) : Result := ldRegReg .b .b s

/-- `LD B,C` (R200). -/
def execLdBC (s : State) : Result := ldRegReg .b .c s

/-- `LD B,D` (R200). -/
def execLdBD (s : State) : Result := ldRegReg .b .d s

/-- `LD B,E` (R200). -/
def execLdBE (s : State) : Result := ldRegReg .b .e s

/-- `LD B,H` (R200). -/
def execLdBH (s : State) : Result := ldRegReg .b .h s

/-- `LD B,L` (R200). -/
def execLdBL (s : State) : Result := ldRegReg .b .l s

/-- `LD B,A` (R200). -/
def execLdBA (s : State) : Result := ldRegReg .b .a s

/-- `LD C,B` (R200). -/
def execLdCB (s : State) : Result := ldRegReg .c .b s

/-- `LD C,C` (R200). -/
def execLdCC (s : State) : Result := ldRegReg .c .c s

/-- `LD C,D` (R200). -/
def execLdCD (s : State) : Result := ldRegReg .c .d s

/-- `LD C,E` (R200). -/
def execLdCE (s : State) : Result := ldRegReg .c .e s

/-- `LD C,H` (R200). -/
def execLdCH (s : State) : Result := ldRegReg .c .h s

/-- `LD C,L` (R200). -/
def execLdCL (s : State) : Result := ldRegReg .c .l s

/-- `LD C,A` (R200). -/
def execLdCA (s : State) : Result := ldRegReg .c .a s

/-- `LD D,B` (R200). -/
def execLdDB (s : State) : Result := ldRegReg .d .b s

/-- `LD D,C` (R200). -/
def execLdDC (s : State) : Result := ldRegReg .d .c s

/-- `LD D,D` (R200). -/
def execLdDD (s : State) : Result := ldRegReg .d .d s

/-- `LD D,E` (R200). -/
def execLdDE (s : State) : Result := ldRegReg .d .e s

/-- `LD D,H` (R200). -/
def execLdDH (s : State) : Result := ldRegReg .d .h s

/-- `LD D,L` (R200). -/
def execLdDL (s : State) : Result := ldRegReg .d .l s

/-- `LD D,A` (R200). -/
def execLdDA (s : State) : Result := ldRegReg .d .a s

/-- `LD E,B` (R200). -/
def execLdEB (s : State) : Result := ldRegReg .e .b s

/-- `LD E,C` (R200). -/
def execLdEC (s : State) : Result := ldRegReg .e .c s

/-- `LD E,D` (R200). -/
def execLdED (s : State) : Result := ldRegReg .e .d s

/-- `LD E,E` (R200). -/
def execLdEE (s : State) : Result := ldRegReg .e .e s

/-- `LD E,H` (R200). -/
def execLdEH (s : State) : Result := ldRegReg .e .h s

/-- `LD E,L` (R200). -/
def execLdEL (s : State) : Result := ldRegReg .e .l s

/-- `LD E,A` (R200). -/
def execLdEA (s : State) : Result := ldRegReg .e .a s

/-- `LD H,B` (R200). -/
def execLdHB (s : State) : Result := ldRegReg .h .b s

/-- `LD H,C` (R200). -/
def execLdHC (s : State) : Result := ldRegReg .h .c s

/-- `LD H,D` (R200). -/
def execLdHD (s : State) : Result := ldRegReg .h .d s

/-- `LD H,E` (R200). -/
def execLdHE (s : State) : Result := ldRegReg .h .e s

/-- `LD H,H` (R200). -/
def execLdHH (s : State) : Result := ldRegReg .h .h s

/-- `LD H,L` (R200). -/
def execLdHL (s : State) : Result := ldRegReg .h .l s

/-- `LD H,A` (R200). -/
def execLdHA (s : State) : Result := ldRegReg .h .a s

/-- `LD L,B` (R200). -/
def execLdLB (s : State) : Result := ldRegReg .l .b s

/-- `LD L,C` (R200). -/
def execLdLC (s : State) : Result := ldRegReg .l .c s

/-- `LD L,D` (R200). -/
def execLdLD (s : State) : Result := ldRegReg .l .d s

/-- `LD L,E` (R200). -/
def execLdLE (s : State) : Result := ldRegReg .l .e s

/-- `LD L,H` (R200). -/
def execLdLH (s : State) : Result := ldRegReg .l .h s

/-- `LD L,L` (R200). -/
def execLdLL (s : State) : Result := ldRegReg .l .l s

/-- `LD L,A` (R200). -/
def execLdLA (s : State) : Result := ldRegReg .l .a s

/-- `LD A,B` (R200). -/
def execLdAB (s : State) : Result := ldRegReg .a .b s

/-- `LD A,C` (R200). -/
def execLdAC (s : State) : Result := ldRegReg .a .c s

/-- `LD A,D` (R200). -/
def execLdAD (s : State) : Result := ldRegReg .a .d s

/-- `LD A,E` (R200). -/
def execLdAE (s : State) : Result := ldRegReg .a .e s

/-- `LD A,H` (R200). -/
def execLdAH (s : State) : Result := ldRegReg .a .h s

/-- `LD A,L` (R200). -/
def execLdAL (s : State) : Result := ldRegReg .a .l s

/-- `LD A,A` (R200). -/
def execLdAA (s : State) : Result := ldRegReg .a .a s

/-- `LD B,n` (R201). -/
def execLdBN (n : Byte) (s : State) : Result := ldRegImm .b n s

/-- `LD C,n` (R201). -/
def execLdCN (n : Byte) (s : State) : Result := ldRegImm .c n s

/-- `LD D,n` (R201). -/
def execLdDN (n : Byte) (s : State) : Result := ldRegImm .d n s

/-- `LD E,n` (R201). -/
def execLdEN (n : Byte) (s : State) : Result := ldRegImm .e n s

/-- `LD H,n` (R201). -/
def execLdHN (n : Byte) (s : State) : Result := ldRegImm .h n s

/-- `LD L,n` (R201). -/
def execLdLN (n : Byte) (s : State) : Result := ldRegImm .l n s

/-- `LD A,n` (R201). -/
def execLdAN (n : Byte) (s : State) : Result := ldRegImm .a n s

/-- `LD B,(HL)` (R202). -/
def execLdBAtHl (s : State) : Result := ldRegMem .b s.cpu.hl s

/-- `LD C,(HL)` (R202). -/
def execLdCAtHl (s : State) : Result := ldRegMem .c s.cpu.hl s

/-- `LD D,(HL)` (R202). -/
def execLdDAtHl (s : State) : Result := ldRegMem .d s.cpu.hl s

/-- `LD E,(HL)` (R202). -/
def execLdEAtHl (s : State) : Result := ldRegMem .e s.cpu.hl s

/-- `LD H,(HL)` (R202). -/
def execLdHAtHl (s : State) : Result := ldRegMem .h s.cpu.hl s

/-- `LD L,(HL)` (R202). -/
def execLdLAtHl (s : State) : Result := ldRegMem .l s.cpu.hl s

/-- `LD A,(HL)` (R202). -/
def execLdAAtHl (s : State) : Result := ldRegMem .a s.cpu.hl s

/-- `LD (HL),B` (R203). -/
def execLdAtHlB (s : State) : Result := ldMem s.cpu.hl s.cpu.b s

/-- `LD (HL),C` (R203). -/
def execLdAtHlC (s : State) : Result := ldMem s.cpu.hl s.cpu.c s

/-- `LD (HL),D` (R203). -/
def execLdAtHlD (s : State) : Result := ldMem s.cpu.hl s.cpu.d s

/-- `LD (HL),E` (R203). -/
def execLdAtHlE (s : State) : Result := ldMem s.cpu.hl s.cpu.e s

/-- `LD (HL),H` (R203). -/
def execLdAtHlH (s : State) : Result := ldMem s.cpu.hl s.cpu.h s

/-- `LD (HL),L` (R203). -/
def execLdAtHlL (s : State) : Result := ldMem s.cpu.hl s.cpu.l s

/-- `LD (HL),A` (R203). -/
def execLdAtHlA (s : State) : Result := ldMem s.cpu.hl s.cpu.a s

/-- `LD (HL),n` (R204). -/
def execLdAtHlN (n : Byte) (s : State) : Result := ldMem s.cpu.hl n s

/-- `LD A,(BC)` (R205). -/
def execLdAAtBc (s : State) : Result := ldRegMem .a (s.cpu.pair .bc) s

/-- `LD A,(DE)` (R206). -/
def execLdAAtDe (s : State) : Result := ldRegMem .a (s.cpu.pair .de) s

/-- `LD (BC),A` (R207). -/
def execLdAtBcA (s : State) : Result := ldMem (s.cpu.pair .bc) s.cpu.a s

/-- `LD (DE),A` (R208). -/
def execLdAtDeA (s : State) : Result := ldMem (s.cpu.pair .de) s.cpu.a s

/-- `LD A,(nn)` (R209). -/
def execLdAAtNn (nn : Word) (s : State) : Result := ldRegMem .a nn s

/-- `LD (nn),A` (R210). -/
def execLdAtNnA (nn : Word) (s : State) : Result := ldMem nn s.cpu.a s

/-- `LDH A,(n)` (R211). -/
def execLdhAAtN (n : Byte) (s : State) : Result := ldRegMem .a (highPage n) s

/-- `LDH (n),A` (R212). -/
def execLdhAtNA (n : Byte) (s : State) : Result := ldMem (highPage n) s.cpu.a s

/-- `LDH A,(C)` (R213). -/
def execLdhAAtC (s : State) : Result := ldRegMem .a (highPage s.cpu.c) s

/-- `LDH (C),A` (R214). -/
def execLdhAtCA (s : State) : Result := ldMem (highPage s.cpu.c) s.cpu.a s

/-- `LD A,(HL+)` (R215). -/
def execLdAAtHlInc (s : State) : Result := ldAHlStep (s.cpu.hl + 1) s

/-- `LD A,(HL-)` (R216). -/
def execLdAAtHlDec (s : State) : Result := ldAHlStep (s.cpu.hl - 1) s

/-- `LD (HL+),A` (R217). -/
def execLdAtHlIncA (s : State) : Result := ldHlStepA (s.cpu.hl + 1) s

/-- `LD (HL-),A` (R218). -/
def execLdAtHlDecA (s : State) : Result := ldHlStepA (s.cpu.hl - 1) s

end Sys2Proof.Machine
end

