-- ==== Sys2Proof/Machine/Rotate.lean ====
section
/-! DEFINITION. Rotates, shifts and bit operations, and the prefix (44_rotate_shift_bit.md R300 to R326, 46_system.md R365). -/

namespace Sys2Proof.Machine

/-- R300 to R303: an accumulator rotate. -/
def rotA (op : RotOp) (s : State) : Result :=
  .next (s.mapCpu fun c => { c with a := (op.applyA c.a c.flagC).res, f := (op.applyA c.a c.flagC).f })

/-- R305 to R319: a prefixed rotate or shift of a register. -/
def rotReg (op : RotOp) (r : Reg8) (s : State) : Result := stepReg op.apply r s

/-- R306 to R320: a prefixed rotate or shift of the byte at HL. -/
def rotMem (op : RotOp) (s : State) : Result := modifyMem op.apply s

/-- R321: test bit `b` of a register. -/
def bitReg (b : Nat) (r : Reg8) (s : State) : Result :=
  .next (s.mapCpu fun c => { c with f := bitFlags (c.reg r) b c.flagC })

/-- R322: test bit `b` of the byte at HL. -/
def bitMem (b : Nat) (s : State) : Result :=
  .next ((s.readCycle s.cpu.hl).mapCpu fun c => { c with f := bitFlags (s.readValue s.cpu.hl) b c.flagC })

/-- `v & ~(1 << b)` (R323, R324). -/
def clearBit (b : Nat) (v : Byte) : Byte := v &&& ~~~ (1#8 <<< b)

/-- `v | (1 << b)` (R325, R326). -/
def setBit (b : Nat) (v : Byte) : Byte := v ||| (1#8 <<< b)

/-- R323, R325: change one bit of a register. -/
def changeReg (g : Byte → Byte) (r : Reg8) (s : State) : Result := .next (s.mapCpu fun c => c.setReg r (g (c.reg r)))

/-- R324, R326: a read and a write M-cycle at HL, no flag. -/
def changeMem (g : Byte → Byte) (s : State) : Result :=
  .next ((s.readCycle s.cpu.hl).writeCycle s.cpu.hl (g (s.readValue s.cpu.hl)))

/-- `0xCB op2` (R365): execute the instruction `op2` of R164 by its fields x, y, z (R156); operand code 6 is (HL) (R152). -/
def execPrefixCb (op2 : Byte) (s : State) : Result :=
  let y := op2.extractLsb' 3 3
  match reg8OfCode (op2.extractLsb' 0 3), (op2.extractLsb' 6 2).toNat with
  | some r, 0 => rotReg (rotOfCode y) r s
  | some r, 1 => bitReg y.toNat r s
  | some r, 2 => changeReg (clearBit y.toNat) r s
  | some r, _ => changeReg (setBit y.toNat) r s
  | none, 0 => rotMem (rotOfCode y) s
  | none, 1 => bitMem y.toNat s
  | none, 2 => changeMem (clearBit y.toNat) s
  | none, _ => changeMem (setBit y.toNat) s

/-- `RLCA` (R300). -/
def execRlca (s : State) : Result := rotA .rlc s

/-- `RRCA` (R301). -/
def execRrca (s : State) : Result := rotA .rrc s

/-- `RLA` (R302). -/
def execRla (s : State) : Result := rotA .rl s

/-- `RRA` (R303). -/
def execRra (s : State) : Result := rotA .rr s

/-- `RLC B` (R305). -/
def execRlcB (s : State) : Result := rotReg .rlc .b s

/-- `RLC C` (R305). -/
def execRlcC (s : State) : Result := rotReg .rlc .c s

/-- `RLC D` (R305). -/
def execRlcD (s : State) : Result := rotReg .rlc .d s

/-- `RLC E` (R305). -/
def execRlcE (s : State) : Result := rotReg .rlc .e s

/-- `RLC H` (R305). -/
def execRlcH (s : State) : Result := rotReg .rlc .h s

/-- `RLC L` (R305). -/
def execRlcL (s : State) : Result := rotReg .rlc .l s

/-- `RLC A` (R305). -/
def execRlcA (s : State) : Result := rotReg .rlc .a s

/-- `RLC (HL)` (R306). -/
def execRlcAtHl (s : State) : Result := rotMem .rlc s

/-- `RRC B` (R307). -/
def execRrcB (s : State) : Result := rotReg .rrc .b s

/-- `RRC C` (R307). -/
def execRrcC (s : State) : Result := rotReg .rrc .c s

/-- `RRC D` (R307). -/
def execRrcD (s : State) : Result := rotReg .rrc .d s

/-- `RRC E` (R307). -/
def execRrcE (s : State) : Result := rotReg .rrc .e s

/-- `RRC H` (R307). -/
def execRrcH (s : State) : Result := rotReg .rrc .h s

/-- `RRC L` (R307). -/
def execRrcL (s : State) : Result := rotReg .rrc .l s

/-- `RRC A` (R307). -/
def execRrcA (s : State) : Result := rotReg .rrc .a s

/-- `RRC (HL)` (R308). -/
def execRrcAtHl (s : State) : Result := rotMem .rrc s

/-- `RL B` (R309). -/
def execRlB (s : State) : Result := rotReg .rl .b s

/-- `RL C` (R309). -/
def execRlC (s : State) : Result := rotReg .rl .c s

/-- `RL D` (R309). -/
def execRlD (s : State) : Result := rotReg .rl .d s

/-- `RL E` (R309). -/
def execRlE (s : State) : Result := rotReg .rl .e s

/-- `RL H` (R309). -/
def execRlH (s : State) : Result := rotReg .rl .h s

/-- `RL L` (R309). -/
def execRlL (s : State) : Result := rotReg .rl .l s

/-- `RL A` (R309). -/
def execRlA (s : State) : Result := rotReg .rl .a s

/-- `RL (HL)` (R310). -/
def execRlAtHl (s : State) : Result := rotMem .rl s

/-- `RR B` (R311). -/
def execRrB (s : State) : Result := rotReg .rr .b s

/-- `RR C` (R311). -/
def execRrC (s : State) : Result := rotReg .rr .c s

/-- `RR D` (R311). -/
def execRrD (s : State) : Result := rotReg .rr .d s

/-- `RR E` (R311). -/
def execRrE (s : State) : Result := rotReg .rr .e s

/-- `RR H` (R311). -/
def execRrH (s : State) : Result := rotReg .rr .h s

/-- `RR L` (R311). -/
def execRrL (s : State) : Result := rotReg .rr .l s

/-- `RR A` (R311). -/
def execRrA (s : State) : Result := rotReg .rr .a s

/-- `RR (HL)` (R312). -/
def execRrAtHl (s : State) : Result := rotMem .rr s

/-- `SLA B` (R313). -/
def execSlaB (s : State) : Result := rotReg .sla .b s

/-- `SLA C` (R313). -/
def execSlaC (s : State) : Result := rotReg .sla .c s

/-- `SLA D` (R313). -/
def execSlaD (s : State) : Result := rotReg .sla .d s

/-- `SLA E` (R313). -/
def execSlaE (s : State) : Result := rotReg .sla .e s

/-- `SLA H` (R313). -/
def execSlaH (s : State) : Result := rotReg .sla .h s

/-- `SLA L` (R313). -/
def execSlaL (s : State) : Result := rotReg .sla .l s

/-- `SLA A` (R313). -/
def execSlaA (s : State) : Result := rotReg .sla .a s

/-- `SLA (HL)` (R314). -/
def execSlaAtHl (s : State) : Result := rotMem .sla s

/-- `SRA B` (R315). -/
def execSraB (s : State) : Result := rotReg .sra .b s

/-- `SRA C` (R315). -/
def execSraC (s : State) : Result := rotReg .sra .c s

/-- `SRA D` (R315). -/
def execSraD (s : State) : Result := rotReg .sra .d s

/-- `SRA E` (R315). -/
def execSraE (s : State) : Result := rotReg .sra .e s

/-- `SRA H` (R315). -/
def execSraH (s : State) : Result := rotReg .sra .h s

/-- `SRA L` (R315). -/
def execSraL (s : State) : Result := rotReg .sra .l s

/-- `SRA A` (R315). -/
def execSraA (s : State) : Result := rotReg .sra .a s

/-- `SRA (HL)` (R316). -/
def execSraAtHl (s : State) : Result := rotMem .sra s

/-- `SWAP B` (R317). -/
def execSwapB (s : State) : Result := rotReg .swap .b s

/-- `SWAP C` (R317). -/
def execSwapC (s : State) : Result := rotReg .swap .c s

/-- `SWAP D` (R317). -/
def execSwapD (s : State) : Result := rotReg .swap .d s

/-- `SWAP E` (R317). -/
def execSwapE (s : State) : Result := rotReg .swap .e s

/-- `SWAP H` (R317). -/
def execSwapH (s : State) : Result := rotReg .swap .h s

/-- `SWAP L` (R317). -/
def execSwapL (s : State) : Result := rotReg .swap .l s

/-- `SWAP A` (R317). -/
def execSwapA (s : State) : Result := rotReg .swap .a s

/-- `SWAP (HL)` (R318). -/
def execSwapAtHl (s : State) : Result := rotMem .swap s

/-- `SRL B` (R319). -/
def execSrlB (s : State) : Result := rotReg .srl .b s

/-- `SRL C` (R319). -/
def execSrlC (s : State) : Result := rotReg .srl .c s

/-- `SRL D` (R319). -/
def execSrlD (s : State) : Result := rotReg .srl .d s

/-- `SRL E` (R319). -/
def execSrlE (s : State) : Result := rotReg .srl .e s

/-- `SRL H` (R319). -/
def execSrlH (s : State) : Result := rotReg .srl .h s

/-- `SRL L` (R319). -/
def execSrlL (s : State) : Result := rotReg .srl .l s

/-- `SRL A` (R319). -/
def execSrlA (s : State) : Result := rotReg .srl .a s

/-- `SRL (HL)` (R320). -/
def execSrlAtHl (s : State) : Result := rotMem .srl s

/-- `BIT 0,B` (R321). -/
def execBit0B (s : State) : Result := bitReg 0 .b s

/-- `BIT 0,C` (R321). -/
def execBit0C (s : State) : Result := bitReg 0 .c s

/-- `BIT 0,D` (R321). -/
def execBit0D (s : State) : Result := bitReg 0 .d s

/-- `BIT 0,E` (R321). -/
def execBit0E (s : State) : Result := bitReg 0 .e s

/-- `BIT 0,H` (R321). -/
def execBit0H (s : State) : Result := bitReg 0 .h s

/-- `BIT 0,L` (R321). -/
def execBit0L (s : State) : Result := bitReg 0 .l s

/-- `BIT 0,A` (R321). -/
def execBit0A (s : State) : Result := bitReg 0 .a s

/-- `BIT 1,B` (R321). -/
def execBit1B (s : State) : Result := bitReg 1 .b s

/-- `BIT 1,C` (R321). -/
def execBit1C (s : State) : Result := bitReg 1 .c s

/-- `BIT 1,D` (R321). -/
def execBit1D (s : State) : Result := bitReg 1 .d s

/-- `BIT 1,E` (R321). -/
def execBit1E (s : State) : Result := bitReg 1 .e s

/-- `BIT 1,H` (R321). -/
def execBit1H (s : State) : Result := bitReg 1 .h s

/-- `BIT 1,L` (R321). -/
def execBit1L (s : State) : Result := bitReg 1 .l s

/-- `BIT 1,A` (R321). -/
def execBit1A (s : State) : Result := bitReg 1 .a s

/-- `BIT 2,B` (R321). -/
def execBit2B (s : State) : Result := bitReg 2 .b s

/-- `BIT 2,C` (R321). -/
def execBit2C (s : State) : Result := bitReg 2 .c s

/-- `BIT 2,D` (R321). -/
def execBit2D (s : State) : Result := bitReg 2 .d s

/-- `BIT 2,E` (R321). -/
def execBit2E (s : State) : Result := bitReg 2 .e s

/-- `BIT 2,H` (R321). -/
def execBit2H (s : State) : Result := bitReg 2 .h s

/-- `BIT 2,L` (R321). -/
def execBit2L (s : State) : Result := bitReg 2 .l s

/-- `BIT 2,A` (R321). -/
def execBit2A (s : State) : Result := bitReg 2 .a s

/-- `BIT 3,B` (R321). -/
def execBit3B (s : State) : Result := bitReg 3 .b s

/-- `BIT 3,C` (R321). -/
def execBit3C (s : State) : Result := bitReg 3 .c s

/-- `BIT 3,D` (R321). -/
def execBit3D (s : State) : Result := bitReg 3 .d s

/-- `BIT 3,E` (R321). -/
def execBit3E (s : State) : Result := bitReg 3 .e s

/-- `BIT 3,H` (R321). -/
def execBit3H (s : State) : Result := bitReg 3 .h s

/-- `BIT 3,L` (R321). -/
def execBit3L (s : State) : Result := bitReg 3 .l s

/-- `BIT 3,A` (R321). -/
def execBit3A (s : State) : Result := bitReg 3 .a s

/-- `BIT 4,B` (R321). -/
def execBit4B (s : State) : Result := bitReg 4 .b s

/-- `BIT 4,C` (R321). -/
def execBit4C (s : State) : Result := bitReg 4 .c s

/-- `BIT 4,D` (R321). -/
def execBit4D (s : State) : Result := bitReg 4 .d s

/-- `BIT 4,E` (R321). -/
def execBit4E (s : State) : Result := bitReg 4 .e s

/-- `BIT 4,H` (R321). -/
def execBit4H (s : State) : Result := bitReg 4 .h s

/-- `BIT 4,L` (R321). -/
def execBit4L (s : State) : Result := bitReg 4 .l s

/-- `BIT 4,A` (R321). -/
def execBit4A (s : State) : Result := bitReg 4 .a s

/-- `BIT 5,B` (R321). -/
def execBit5B (s : State) : Result := bitReg 5 .b s

/-- `BIT 5,C` (R321). -/
def execBit5C (s : State) : Result := bitReg 5 .c s

/-- `BIT 5,D` (R321). -/
def execBit5D (s : State) : Result := bitReg 5 .d s

/-- `BIT 5,E` (R321). -/
def execBit5E (s : State) : Result := bitReg 5 .e s

/-- `BIT 5,H` (R321). -/
def execBit5H (s : State) : Result := bitReg 5 .h s

/-- `BIT 5,L` (R321). -/
def execBit5L (s : State) : Result := bitReg 5 .l s

/-- `BIT 5,A` (R321). -/
def execBit5A (s : State) : Result := bitReg 5 .a s

/-- `BIT 6,B` (R321). -/
def execBit6B (s : State) : Result := bitReg 6 .b s

/-- `BIT 6,C` (R321). -/
def execBit6C (s : State) : Result := bitReg 6 .c s

/-- `BIT 6,D` (R321). -/
def execBit6D (s : State) : Result := bitReg 6 .d s

/-- `BIT 6,E` (R321). -/
def execBit6E (s : State) : Result := bitReg 6 .e s

/-- `BIT 6,H` (R321). -/
def execBit6H (s : State) : Result := bitReg 6 .h s

/-- `BIT 6,L` (R321). -/
def execBit6L (s : State) : Result := bitReg 6 .l s

/-- `BIT 6,A` (R321). -/
def execBit6A (s : State) : Result := bitReg 6 .a s

/-- `BIT 7,B` (R321). -/
def execBit7B (s : State) : Result := bitReg 7 .b s

/-- `BIT 7,C` (R321). -/
def execBit7C (s : State) : Result := bitReg 7 .c s

/-- `BIT 7,D` (R321). -/
def execBit7D (s : State) : Result := bitReg 7 .d s

/-- `BIT 7,E` (R321). -/
def execBit7E (s : State) : Result := bitReg 7 .e s

/-- `BIT 7,H` (R321). -/
def execBit7H (s : State) : Result := bitReg 7 .h s

/-- `BIT 7,L` (R321). -/
def execBit7L (s : State) : Result := bitReg 7 .l s

/-- `BIT 7,A` (R321). -/
def execBit7A (s : State) : Result := bitReg 7 .a s

/-- `BIT 0,(HL)` (R322). -/
def execBit0AtHl (s : State) : Result := bitMem 0 s

/-- `BIT 1,(HL)` (R322). -/
def execBit1AtHl (s : State) : Result := bitMem 1 s

/-- `BIT 2,(HL)` (R322). -/
def execBit2AtHl (s : State) : Result := bitMem 2 s

/-- `BIT 3,(HL)` (R322). -/
def execBit3AtHl (s : State) : Result := bitMem 3 s

/-- `BIT 4,(HL)` (R322). -/
def execBit4AtHl (s : State) : Result := bitMem 4 s

/-- `BIT 5,(HL)` (R322). -/
def execBit5AtHl (s : State) : Result := bitMem 5 s

/-- `BIT 6,(HL)` (R322). -/
def execBit6AtHl (s : State) : Result := bitMem 6 s

/-- `BIT 7,(HL)` (R322). -/
def execBit7AtHl (s : State) : Result := bitMem 7 s

/-- `RES 0,B` (R323). -/
def execRes0B (s : State) : Result := changeReg (clearBit 0) .b s

/-- `RES 0,C` (R323). -/
def execRes0C (s : State) : Result := changeReg (clearBit 0) .c s

/-- `RES 0,D` (R323). -/
def execRes0D (s : State) : Result := changeReg (clearBit 0) .d s

/-- `RES 0,E` (R323). -/
def execRes0E (s : State) : Result := changeReg (clearBit 0) .e s

/-- `RES 0,H` (R323). -/
def execRes0H (s : State) : Result := changeReg (clearBit 0) .h s

/-- `RES 0,L` (R323). -/
def execRes0L (s : State) : Result := changeReg (clearBit 0) .l s

/-- `RES 0,A` (R323). -/
def execRes0A (s : State) : Result := changeReg (clearBit 0) .a s

/-- `RES 1,B` (R323). -/
def execRes1B (s : State) : Result := changeReg (clearBit 1) .b s

/-- `RES 1,C` (R323). -/
def execRes1C (s : State) : Result := changeReg (clearBit 1) .c s

/-- `RES 1,D` (R323). -/
def execRes1D (s : State) : Result := changeReg (clearBit 1) .d s

/-- `RES 1,E` (R323). -/
def execRes1E (s : State) : Result := changeReg (clearBit 1) .e s

/-- `RES 1,H` (R323). -/
def execRes1H (s : State) : Result := changeReg (clearBit 1) .h s

/-- `RES 1,L` (R323). -/
def execRes1L (s : State) : Result := changeReg (clearBit 1) .l s

/-- `RES 1,A` (R323). -/
def execRes1A (s : State) : Result := changeReg (clearBit 1) .a s

/-- `RES 2,B` (R323). -/
def execRes2B (s : State) : Result := changeReg (clearBit 2) .b s

/-- `RES 2,C` (R323). -/
def execRes2C (s : State) : Result := changeReg (clearBit 2) .c s

/-- `RES 2,D` (R323). -/
def execRes2D (s : State) : Result := changeReg (clearBit 2) .d s

/-- `RES 2,E` (R323). -/
def execRes2E (s : State) : Result := changeReg (clearBit 2) .e s

/-- `RES 2,H` (R323). -/
def execRes2H (s : State) : Result := changeReg (clearBit 2) .h s

/-- `RES 2,L` (R323). -/
def execRes2L (s : State) : Result := changeReg (clearBit 2) .l s

/-- `RES 2,A` (R323). -/
def execRes2A (s : State) : Result := changeReg (clearBit 2) .a s

/-- `RES 3,B` (R323). -/
def execRes3B (s : State) : Result := changeReg (clearBit 3) .b s

/-- `RES 3,C` (R323). -/
def execRes3C (s : State) : Result := changeReg (clearBit 3) .c s

/-- `RES 3,D` (R323). -/
def execRes3D (s : State) : Result := changeReg (clearBit 3) .d s

/-- `RES 3,E` (R323). -/
def execRes3E (s : State) : Result := changeReg (clearBit 3) .e s

/-- `RES 3,H` (R323). -/
def execRes3H (s : State) : Result := changeReg (clearBit 3) .h s

/-- `RES 3,L` (R323). -/
def execRes3L (s : State) : Result := changeReg (clearBit 3) .l s

/-- `RES 3,A` (R323). -/
def execRes3A (s : State) : Result := changeReg (clearBit 3) .a s

/-- `RES 4,B` (R323). -/
def execRes4B (s : State) : Result := changeReg (clearBit 4) .b s

/-- `RES 4,C` (R323). -/
def execRes4C (s : State) : Result := changeReg (clearBit 4) .c s

/-- `RES 4,D` (R323). -/
def execRes4D (s : State) : Result := changeReg (clearBit 4) .d s

/-- `RES 4,E` (R323). -/
def execRes4E (s : State) : Result := changeReg (clearBit 4) .e s

/-- `RES 4,H` (R323). -/
def execRes4H (s : State) : Result := changeReg (clearBit 4) .h s

/-- `RES 4,L` (R323). -/
def execRes4L (s : State) : Result := changeReg (clearBit 4) .l s

/-- `RES 4,A` (R323). -/
def execRes4A (s : State) : Result := changeReg (clearBit 4) .a s

/-- `RES 5,B` (R323). -/
def execRes5B (s : State) : Result := changeReg (clearBit 5) .b s

/-- `RES 5,C` (R323). -/
def execRes5C (s : State) : Result := changeReg (clearBit 5) .c s

/-- `RES 5,D` (R323). -/
def execRes5D (s : State) : Result := changeReg (clearBit 5) .d s

/-- `RES 5,E` (R323). -/
def execRes5E (s : State) : Result := changeReg (clearBit 5) .e s

/-- `RES 5,H` (R323). -/
def execRes5H (s : State) : Result := changeReg (clearBit 5) .h s

/-- `RES 5,L` (R323). -/
def execRes5L (s : State) : Result := changeReg (clearBit 5) .l s

/-- `RES 5,A` (R323). -/
def execRes5A (s : State) : Result := changeReg (clearBit 5) .a s

/-- `RES 6,B` (R323). -/
def execRes6B (s : State) : Result := changeReg (clearBit 6) .b s

/-- `RES 6,C` (R323). -/
def execRes6C (s : State) : Result := changeReg (clearBit 6) .c s

/-- `RES 6,D` (R323). -/
def execRes6D (s : State) : Result := changeReg (clearBit 6) .d s

/-- `RES 6,E` (R323). -/
def execRes6E (s : State) : Result := changeReg (clearBit 6) .e s

/-- `RES 6,H` (R323). -/
def execRes6H (s : State) : Result := changeReg (clearBit 6) .h s

/-- `RES 6,L` (R323). -/
def execRes6L (s : State) : Result := changeReg (clearBit 6) .l s

/-- `RES 6,A` (R323). -/
def execRes6A (s : State) : Result := changeReg (clearBit 6) .a s

/-- `RES 7,B` (R323). -/
def execRes7B (s : State) : Result := changeReg (clearBit 7) .b s

/-- `RES 7,C` (R323). -/
def execRes7C (s : State) : Result := changeReg (clearBit 7) .c s

/-- `RES 7,D` (R323). -/
def execRes7D (s : State) : Result := changeReg (clearBit 7) .d s

/-- `RES 7,E` (R323). -/
def execRes7E (s : State) : Result := changeReg (clearBit 7) .e s

/-- `RES 7,H` (R323). -/
def execRes7H (s : State) : Result := changeReg (clearBit 7) .h s

/-- `RES 7,L` (R323). -/
def execRes7L (s : State) : Result := changeReg (clearBit 7) .l s

/-- `RES 7,A` (R323). -/
def execRes7A (s : State) : Result := changeReg (clearBit 7) .a s

/-- `RES 0,(HL)` (R324). -/
def execRes0AtHl (s : State) : Result := changeMem (clearBit 0) s

/-- `RES 1,(HL)` (R324). -/
def execRes1AtHl (s : State) : Result := changeMem (clearBit 1) s

/-- `RES 2,(HL)` (R324). -/
def execRes2AtHl (s : State) : Result := changeMem (clearBit 2) s

/-- `RES 3,(HL)` (R324). -/
def execRes3AtHl (s : State) : Result := changeMem (clearBit 3) s

/-- `RES 4,(HL)` (R324). -/
def execRes4AtHl (s : State) : Result := changeMem (clearBit 4) s

/-- `RES 5,(HL)` (R324). -/
def execRes5AtHl (s : State) : Result := changeMem (clearBit 5) s

/-- `RES 6,(HL)` (R324). -/
def execRes6AtHl (s : State) : Result := changeMem (clearBit 6) s

/-- `RES 7,(HL)` (R324). -/
def execRes7AtHl (s : State) : Result := changeMem (clearBit 7) s

/-- `SET 0,B` (R325). -/
def execSet0B (s : State) : Result := changeReg (setBit 0) .b s

/-- `SET 0,C` (R325). -/
def execSet0C (s : State) : Result := changeReg (setBit 0) .c s

/-- `SET 0,D` (R325). -/
def execSet0D (s : State) : Result := changeReg (setBit 0) .d s

/-- `SET 0,E` (R325). -/
def execSet0E (s : State) : Result := changeReg (setBit 0) .e s

/-- `SET 0,H` (R325). -/
def execSet0H (s : State) : Result := changeReg (setBit 0) .h s

/-- `SET 0,L` (R325). -/
def execSet0L (s : State) : Result := changeReg (setBit 0) .l s

/-- `SET 0,A` (R325). -/
def execSet0A (s : State) : Result := changeReg (setBit 0) .a s

/-- `SET 1,B` (R325). -/
def execSet1B (s : State) : Result := changeReg (setBit 1) .b s

/-- `SET 1,C` (R325). -/
def execSet1C (s : State) : Result := changeReg (setBit 1) .c s

/-- `SET 1,D` (R325). -/
def execSet1D (s : State) : Result := changeReg (setBit 1) .d s

/-- `SET 1,E` (R325). -/
def execSet1E (s : State) : Result := changeReg (setBit 1) .e s

/-- `SET 1,H` (R325). -/
def execSet1H (s : State) : Result := changeReg (setBit 1) .h s

/-- `SET 1,L` (R325). -/
def execSet1L (s : State) : Result := changeReg (setBit 1) .l s

/-- `SET 1,A` (R325). -/
def execSet1A (s : State) : Result := changeReg (setBit 1) .a s

/-- `SET 2,B` (R325). -/
def execSet2B (s : State) : Result := changeReg (setBit 2) .b s

/-- `SET 2,C` (R325). -/
def execSet2C (s : State) : Result := changeReg (setBit 2) .c s

/-- `SET 2,D` (R325). -/
def execSet2D (s : State) : Result := changeReg (setBit 2) .d s

/-- `SET 2,E` (R325). -/
def execSet2E (s : State) : Result := changeReg (setBit 2) .e s

/-- `SET 2,H` (R325). -/
def execSet2H (s : State) : Result := changeReg (setBit 2) .h s

/-- `SET 2,L` (R325). -/
def execSet2L (s : State) : Result := changeReg (setBit 2) .l s

/-- `SET 2,A` (R325). -/
def execSet2A (s : State) : Result := changeReg (setBit 2) .a s

/-- `SET 3,B` (R325). -/
def execSet3B (s : State) : Result := changeReg (setBit 3) .b s

/-- `SET 3,C` (R325). -/
def execSet3C (s : State) : Result := changeReg (setBit 3) .c s

/-- `SET 3,D` (R325). -/
def execSet3D (s : State) : Result := changeReg (setBit 3) .d s

/-- `SET 3,E` (R325). -/
def execSet3E (s : State) : Result := changeReg (setBit 3) .e s

/-- `SET 3,H` (R325). -/
def execSet3H (s : State) : Result := changeReg (setBit 3) .h s

/-- `SET 3,L` (R325). -/
def execSet3L (s : State) : Result := changeReg (setBit 3) .l s

/-- `SET 3,A` (R325). -/
def execSet3A (s : State) : Result := changeReg (setBit 3) .a s

/-- `SET 4,B` (R325). -/
def execSet4B (s : State) : Result := changeReg (setBit 4) .b s

/-- `SET 4,C` (R325). -/
def execSet4C (s : State) : Result := changeReg (setBit 4) .c s

/-- `SET 4,D` (R325). -/
def execSet4D (s : State) : Result := changeReg (setBit 4) .d s

/-- `SET 4,E` (R325). -/
def execSet4E (s : State) : Result := changeReg (setBit 4) .e s

/-- `SET 4,H` (R325). -/
def execSet4H (s : State) : Result := changeReg (setBit 4) .h s

/-- `SET 4,L` (R325). -/
def execSet4L (s : State) : Result := changeReg (setBit 4) .l s

/-- `SET 4,A` (R325). -/
def execSet4A (s : State) : Result := changeReg (setBit 4) .a s

/-- `SET 5,B` (R325). -/
def execSet5B (s : State) : Result := changeReg (setBit 5) .b s

/-- `SET 5,C` (R325). -/
def execSet5C (s : State) : Result := changeReg (setBit 5) .c s

/-- `SET 5,D` (R325). -/
def execSet5D (s : State) : Result := changeReg (setBit 5) .d s

/-- `SET 5,E` (R325). -/
def execSet5E (s : State) : Result := changeReg (setBit 5) .e s

/-- `SET 5,H` (R325). -/
def execSet5H (s : State) : Result := changeReg (setBit 5) .h s

/-- `SET 5,L` (R325). -/
def execSet5L (s : State) : Result := changeReg (setBit 5) .l s

/-- `SET 5,A` (R325). -/
def execSet5A (s : State) : Result := changeReg (setBit 5) .a s

/-- `SET 6,B` (R325). -/
def execSet6B (s : State) : Result := changeReg (setBit 6) .b s

/-- `SET 6,C` (R325). -/
def execSet6C (s : State) : Result := changeReg (setBit 6) .c s

/-- `SET 6,D` (R325). -/
def execSet6D (s : State) : Result := changeReg (setBit 6) .d s

/-- `SET 6,E` (R325). -/
def execSet6E (s : State) : Result := changeReg (setBit 6) .e s

/-- `SET 6,H` (R325). -/
def execSet6H (s : State) : Result := changeReg (setBit 6) .h s

/-- `SET 6,L` (R325). -/
def execSet6L (s : State) : Result := changeReg (setBit 6) .l s

/-- `SET 6,A` (R325). -/
def execSet6A (s : State) : Result := changeReg (setBit 6) .a s

/-- `SET 7,B` (R325). -/
def execSet7B (s : State) : Result := changeReg (setBit 7) .b s

/-- `SET 7,C` (R325). -/
def execSet7C (s : State) : Result := changeReg (setBit 7) .c s

/-- `SET 7,D` (R325). -/
def execSet7D (s : State) : Result := changeReg (setBit 7) .d s

/-- `SET 7,E` (R325). -/
def execSet7E (s : State) : Result := changeReg (setBit 7) .e s

/-- `SET 7,H` (R325). -/
def execSet7H (s : State) : Result := changeReg (setBit 7) .h s

/-- `SET 7,L` (R325). -/
def execSet7L (s : State) : Result := changeReg (setBit 7) .l s

/-- `SET 7,A` (R325). -/
def execSet7A (s : State) : Result := changeReg (setBit 7) .a s

/-- `SET 0,(HL)` (R326). -/
def execSet0AtHl (s : State) : Result := changeMem (setBit 0) s

/-- `SET 1,(HL)` (R326). -/
def execSet1AtHl (s : State) : Result := changeMem (setBit 1) s

/-- `SET 2,(HL)` (R326). -/
def execSet2AtHl (s : State) : Result := changeMem (setBit 2) s

/-- `SET 3,(HL)` (R326). -/
def execSet3AtHl (s : State) : Result := changeMem (setBit 3) s

/-- `SET 4,(HL)` (R326). -/
def execSet4AtHl (s : State) : Result := changeMem (setBit 4) s

/-- `SET 5,(HL)` (R326). -/
def execSet5AtHl (s : State) : Result := changeMem (setBit 5) s

/-- `SET 6,(HL)` (R326). -/
def execSet6AtHl (s : State) : Result := changeMem (setBit 6) s

/-- `SET 7,(HL)` (R326). -/
def execSet7AtHl (s : State) : Result := changeMem (setBit 7) s

end Sys2Proof.Machine
end

