-- ==== Sys2Proof/Machine/System.lean ====
section
/-! DEFINITION. System instructions and the illegal opcodes (46_system.md R360 to R364, R366). -/

namespace Sys2Proof.Machine

/-- `NOP` (R360). -/
def execNop (s : State) : Result := .next s

/-- `HALT` (R361). -/
def execHalt (s : State) : Result := 
  if s.bus.pending ≠ 0 then
    if s.cpu.ime then .next s else .next (s.mapCpu fun c => { c with haltBug := true })
  else .next (s.mapCpu fun c => { c with run := .halted })

/-- `STOP` (R362): the divider is reset as by a DIV write (R443). Where that reset shifts the last bit of a serial transfer
it sets IF bit 3 (R465), although R362 says that IF is not changed: DESIGN CHOICE, log entry 28. -/
def execStop (s : State) : Result := 
  .next (({ s with bus := s.bus.setDivider 0 } : State).mapCpu fun c => { c with pc := c.pc + 1, run := .stopped })

/-- `DI` (R363). -/
def execDi (s : State) : Result := .next (s.mapCpu fun c => { c with ime := false, eiDelay := 0 })

/-- `EI` (R364). -/
def execEi (s : State) : Result := 
  .next (s.mapCpu fun c => if c.ime = false ∧ c.eiDelay = 0 then { c with eiDelay := 2 } else c)

/-- `ILLEGAL_D3` (R366). -/
def execIllegalD3 (s : State) : Result := s.raiseUnimplemented 0xD3

/-- `ILLEGAL_DB` (R366). -/
def execIllegalDB (s : State) : Result := s.raiseUnimplemented 0xDB

/-- `ILLEGAL_DD` (R366). -/
def execIllegalDD (s : State) : Result := s.raiseUnimplemented 0xDD

/-- `ILLEGAL_E3` (R366). -/
def execIllegalE3 (s : State) : Result := s.raiseUnimplemented 0xE3

/-- `ILLEGAL_E4` (R366). -/
def execIllegalE4 (s : State) : Result := s.raiseUnimplemented 0xE4

/-- `ILLEGAL_EB` (R366). -/
def execIllegalEB (s : State) : Result := s.raiseUnimplemented 0xEB

/-- `ILLEGAL_EC` (R366). -/
def execIllegalEC (s : State) : Result := s.raiseUnimplemented 0xEC

/-- `ILLEGAL_ED` (R366). -/
def execIllegalED (s : State) : Result := s.raiseUnimplemented 0xED

/-- `ILLEGAL_F4` (R366). -/
def execIllegalF4 (s : State) : Result := s.raiseUnimplemented 0xF4

/-- `ILLEGAL_FC` (R366). -/
def execIllegalFC (s : State) : Result := s.raiseUnimplemented 0xFC

/-- `ILLEGAL_FD` (R366). -/
def execIllegalFD (s : State) : Result := s.raiseUnimplemented 0xFD

end Sys2Proof.Machine
end

