-- ==== Sys2Proof/Machine/Run.lean ====
section
/-! DEFINITION. Fetching an instruction (60_exceptions.md R403, 00_scope.md R22), the Cpu's step algorithm (R402) and placing
the bytes of an instruction where the next fetch reads them. -/

namespace Sys2Proof.Machine

/-- The M-cycle of `FetchOpcode()` (R403); the byte fetched is `s.readValue s.cpu.pc`. Under the halt bug pc stays. -/
def State.fetchOpcode (s : State) : State :=
  (s.readCycle s.cpu.pc).mapCpu fun c =>
    if c.haltBug then { c with haltBug := false, opAddr := c.pc } else { c with pc := c.pc + 1, opAddr := c.pc }

/-- The M-cycle of `FetchImm8()` (R22); the byte fetched is `s.readValue s.cpu.pc`. -/
def State.fetchImm8 (s : State) : State := (s.readCycle s.cpu.pc).mapCpu fun c => { c with pc := c.pc + 1 }

/-- The M-cycles of `n` further bytes of an instruction. -/
def State.fetchImms : Nat → State → State
  | 0, s => s
  | n + 1, s => State.fetchImms n s.fetchImm8

/-- The opcode byte the next instruction fetch reads. -/
def State.opByte (s : State) : Byte := s.readValue s.cpu.pc

/-- The byte read in the M-cycle after `n` immediate bytes. -/
def State.immByte (s : State) (n : Nat) : Byte :=
  (State.fetchImms n s.fetchOpcode).readValue (State.fetchImms n s.fetchOpcode).cpu.pc

/-- The bytes of the next instruction, each as its own M-cycle reads it (STOP's second byte is not read and stands as 0,
30_encoding.md R167). -/
def State.fetchedBytes (s : State) : List Byte :=
  if busLength s.opByte = 3 then [s.opByte, s.immByte 0, s.immByte 1]
  else if busLength s.opByte = 2 then [s.opByte, s.immByte 0]
  else if s.opByte = 0x10 then [s.opByte, 0]
  else [s.opByte]

/-- The state after the last byte of the instruction is fetched. -/
def State.fetched (s : State) : State := State.fetchImms (busLength s.opByte - 1) s.fetchOpcode

/-- The instruction fetched (R402 "the rule of 30_encoding.md rule R160 for op", R365). -/
def State.fetchedInstr (s : State) : Instr :=
  if busLength s.opByte = 3 then decodeOp s.opByte (s.immByte 0) (s.immByte 1)
  else if busLength s.opByte = 2 then decodeOp s.opByte (s.immByte 0) 0
  else decodeOp s.opByte 0 0

/-- `EndOfInstruction()` runs after an executed instruction and not after a fault (R402, R411). -/
def finish : Result → Result
  | .next t => .next t.endOfInstruction
  | .fault x => .fault x
  | .refused x => .refused x

/-- The running part of R402: a dispatch, or one instruction. -/
def State.runOne (s : State) : Result :=
  if s.cpu.ime = true ∧ s.bus.pending ≠ 0 then .next s.dispatch
  else finish (exec s.fetchedInstr s.fetched)

/-- The exit delay of R416. -/
def State.haltExitDelay (s : State) : Nat := if s.cpu.ime then s.bus.params.haltExitIme1 else s.bus.params.haltExitIme0

/-- `run <- Running`. -/
def State.resume (s : State) : State := s.mapCpu fun c => { c with run := .running }

/-- The step of a machine that satisfies R407, by its run mode (R402, R423). -/
def State.stepByMode (s : State) : Result :=
  match s.cpu.run with
  | .faulted op addr => .fault (.unimplementedOpcode op addr s)
  | .stopped => if s.bus.joypadWake then s.resume.runOne else .next s
  | .halted =>
    if s.bus.pending = 0 then .next s.internal else (State.internals s.haltExitDelay s.resume).runOne
  | .running => s.runOne

/-- `Cpu.step()` (R402). A faulted machine returns its fault and changes nothing (R405); a state that breaks an invariant
of R407 reports it (log entry 14). -/
def State.stepBody (s : State) : Result :=
  match s.cpu.run, s.violation with
  | .faulted op addr, _ => .fault (.unimplementedOpcode op addr s)
  | _, some which => .fault (.invariantViolation which)
  | _, none => s.stepByMode

/-- Store `v` so that a Cpu fetch at `a` reads it: in the boot ROM, the image, a memory, or IE. An address with no storage
of its own (I/O, the unusable range, absent external RAM) is left alone (log entry 2). -/
def Bus.placeByte (b : Bus) (a : Word) (v : Byte) : Bus :=
  match region a with
  | .rom =>
    match b.bootByte a with
    | some _ => { b with params := { b.params with bootRom := b.params.bootRom.map (fun r => Memory.write r a.toNat v) } }
    | none => { b with mem := b.mem.write (romKey (b.cart.romOffset a)) v }
  | .extRam =>
    match b.cart.ramTarget a with
    | .byte o => { b with mem := b.mem.write (extRamKey o) v }
    | .halfByte o => { b with mem := b.mem.write (extRamKey o) (v &&& 0x0F) }
    | _ => b
  | .echo => { b with mem := b.mem.write (wramKey (a.toNat - 0xE000)) v }
  | .vram | .wram | .oam | .hram => { b with mem := b.mem.write a.toNat v }
  | .ie => { b with irq := { b.irq with ie := v } }
  | .unusable | .io => b

/-- Store a list of bytes from `a` on. -/
def Bus.placeBytes (b : Bus) (a : Word) : List Byte → Bus
  | [] => b
  | v :: rest => (b.placeByte a v).placeBytes (a + 1) rest

/-- Nothing stands between the machine and fetching its next instruction: it runs, no halt bug is set, no interrupt is
about to be dispatched, no DMA locks the Cpu out (log entry 2). In `State.reset` all of it holds already. -/
def State.readyToFetch (s : State) : State :=
  let dma := if s.bus.dma.st.blocksCpu then { s.bus.dma with st := DmaState.idle } else s.bus.dma
  { cpu := { s.cpu with run := .running, haltBug := false, ime := s.cpu.ime && decide (s.bus.pending = 0) }
    bus := { s.bus with dma := dma } }

/-- The bytes of a table word placed where the next step fetches. -/
def State.placeTableWord (s : State) (nbits w : Nat) : State :=
  let s' := s.readyToFetch
  { s' with bus := s'.bus.placeBytes s'.cpu.pc (tableBytes nbits w) }

end Sys2Proof.Machine
end

