-- ==== Sys2Proof/Machine/Step.lean ====
section
/-! DEFINITION. The step of the machine, and placing an instruction where it fetches. -/

namespace Sys2Proof.Machine

/-- `Cpu.step()` (60_exceptions.md R402). The count of M-cycles it returns is the growth of `bus.cycles` (log entry 10). -/
def step (s : State) : Host.Outcome State Fault Refusal := s.stepBody

/-- `s` with the instruction of a table word stored where `step` fetches its next instruction (log entry 2). -/
def State.withFetchWord (s : State) (nbits w : Nat) : State := s.placeTableWord nbits w

end Sys2Proof.Machine
end

