-- ==== Sys2Proof/Machine/Load.lean ====
section
/-! DEFINITION. Loading a cartridge image: the header and its checks (20_memory.md R118, R119), and the reset of the machine
for any image, parameters, PPU phase, initial memory and boot ROM (70_reset_and_hazards.md R600 to R605). -/

namespace Sys2Proof.Machine

/-- The schemes of `SUPPORTED_MBCS` (R120). -/
inductive MbcKind where
  | rom
  | mbc1
  | mbc2
  | mbc3
  | mbc5
  deriving DecidableEq, Repr

/-- `SUPPORTED_MBCS`, default all five (R120). -/
def MbcKind.all : List MbcKind := [.rom, .mbc1, .mbc2, .mbc3, .mbc5]

/-- The reasons of `CartridgeLoadError` (R119), tested in the order of its sentence. -/
inductive LoadError where
  | tooShort
  | romSizeCode
  | sizeMismatch
  | unknownScheme
  | ramSizeCode
  | romOnlySize
  deriving DecidableEq, Repr

/-- The cartridge type byte (R118). -/
def mbcOfType (t : Byte) : Option MbcKind :=
  match t.toNat with
  | 0x00 | 0x08 | 0x09 => some .rom
  | 0x01 | 0x02 | 0x03 => some .mbc1
  | 0x05 | 0x06 => some .mbc2
  | 0x0F | 0x10 | 0x11 | 0x12 | 0x13 => some .mbc3
  | 0x19 | 0x1A | 0x1B | 0x1C | 0x1D | 0x1E => some .mbc5
  | _ => none

/-- The types with the MBC3 clock: 0x0F and 0x10 (R127). -/
def typeHasClock (t : Byte) : Bool := t == 0x0F || t == 0x10

/-- The external RAM size of code n (R118); nothing above 5. -/
def ramSizeOfCode (n : Byte) : Option Nat :=
  match n.toNat with
  | 0 => some 0
  | 1 => some 0x800
  | 2 => some 0x2000
  | 3 => some 0x8000
  | 4 => some 0x20000
  | 5 => some 0x10000
  | _ => none

/-- Each scheme with the reset values of its registers (R602). -/
def MbcKind.scheme (k : MbcKind) (clock : Bool) : Scheme :=
  match k with
  | .rom => .romOnly
  | .mbc1 => .mbc1 { ramEn := false, bank1 := 1, bank2 := 0, mode := false }
  | .mbc2 => .mbc2 { ramEn := false, romBank := 1 }
  | .mbc3 => .mbc3 { ramEn := false, romBank := 1, ramSel := 0, latchPrev := 0xFF, hasClock := clock }
  | .mbc5 => .mbc5 { ramEn := false, romBank := 1, ramBank := 0 }

/-- The RAM size of the header; MBC2 has its built-in 512 half-bytes whatever the byte says (R118, R124). -/
def headerRam (k : MbcKind) (code : Byte) : Option Nat :=
  match k with
  | .mbc2 => some 512
  | _ => ramSizeOfCode code

/-- The three header bytes the core reads: type, ROM size code, RAM size code (R118). -/
structure Header where
  type : Byte
  romCode : Byte
  ramCode : Byte
  deriving DecidableEq, Repr

/-- The checks of R119 on an image of `len` bytes, and the cartridge they give. -/
def Header.cart (h : Header) (len : Nat) (supported : List MbcKind) : Except LoadError Cart :=
  if len < 0x150 then .error .tooShort
  else if 8 < h.romCode.toNat then .error .romSizeCode
  else if len ≠ 0x8000 * 2 ^ h.romCode.toNat then .error .sizeMismatch
  else
    match mbcOfType h.type with
    | none => .error .unknownScheme
    | some k =>
      if k ∉ supported then .error .unknownScheme
      else
        match headerRam k h.ramCode with
        | none => .error .ramSizeCode
        | some ram =>
          if h.type = 0x00 ∧ h.romCode ≠ 0 then .error .romOnlySize
          else .ok { scheme := k.scheme (typeHasClock h.type), romBanks := 2 * 2 ^ h.romCode.toNat, ramSize := ram }

/-- A cartridge image: its length and its bytes, an unlisted byte being 0. -/
structure Image where
  length : Nat
  bytes : List Host.Cell
  deriving DecidableEq, Repr

/-- Byte `o` of the image: the last one listed. -/
def Image.byte (img : Image) (o : Nat) : Byte :=
  img.bytes.foldl (fun v c => if c.1 = o then c.2 else v) 0

/-- The header at 0x0147..0x0149 (R118). -/
def Image.header (img : Image) : Header where
  type := img.byte 0x147
  romCode := img.byte 0x148
  ramCode := img.byte 0x149

/-- The keys of the memories whose first contents are `INITIAL_MEMORY` (R605): every RAM, and not the image. -/
def isRamKey (c : Cart) (k : Nat) : Bool :=
  (decide (0x8000 ≤ k) && decide (k ≤ 0x9FFF)) || (decide (0xC000 ≤ k) && decide (k ≤ 0xDFFF)) ||
  (decide (0xFE00 ≤ k) && decide (k ≤ 0xFE9F)) || (decide (0xFF80 ≤ k) && decide (k ≤ 0xFFFE)) ||
  (decide (extRamKey 0 ≤ k) && decide (k < extRamKey c.ramSize))

/-- External RAM bytes of MBC2 have four bits (R124). -/
def initialByte (c : Cart) (k : Nat) (v : Byte) : Byte :=
  match c.scheme with
  | .mbc2 _ => if extRamKey 0 ≤ k then v &&& 0x0F else v
  | _ => v

/-- `INITIAL_MEMORY` as cells (R605). -/
def placeInitial (c : Cart) (cells : List Host.Cell) (m : Memory) : Memory :=
  cells.foldl (fun m cell => if isRamKey c cell.1 then m.write cell.1 (initialByte c cell.1 cell.2) else m) m

/-- The image's bytes at their keys; a byte beyond its length is none of it. -/
def Image.place (img : Image) (m : Memory) : Memory :=
  img.bytes.foldl (fun m cell => if cell.1 < img.length then m.write (romKey cell.1) cell.2 else m) m

/-- The 256 bytes of a boot ROM, in the canonical form (R600). -/
def placeBootRom (cells : List Host.Cell) : Memory :=
  cells.foldl (fun m cell => if cell.1 < 0x100 then m.write cell.1 cell.2 else m) []

/-- What loading takes: the image, the parameters, the open values of reset (R52, R604, R605) and, for a boot ROM, the
registers that R600 makes a draw. -/
structure LoadArgs where
  image : Image
  supported : List MbcKind
  params : Params
  phaseLy : Fin 154
  phaseDot : Fin 456
  obp0 : Byte
  obp1 : Byte
  initialMemory : List Host.Cell
  draw : State
  deriving DecidableEq, Repr

/-- The PPU at the phase of R604: `Mode(LY, dot)` with L3 = 172, `stat_line` without a request. -/
def Ppu.atPhase (p : Ppu) (ps : Params) (ly dot : Nat) : Ppu :=
  let p1 := { p with ly := ly, dot := dot, l3 := 172 }
  let p2 := { p1 with mode := p1.modeAt ps.lcdEnableSkipsMode2 }
  { p2 with statLine := p2.statCondition ps }

/-- Reset with `BOOT_ROM = none` (R600, R602). -/
def LoadArgs.plainReset (args : LoadArgs) (cart : Cart) : State :=
  let b := State.reset.bus
  { State.reset with
    bus := { b with
      mem := args.image.place (placeInitial cart args.initialMemory [])
      cart := cart
      ppu := ({ b.ppu with obp0 := args.obp0, obp1 := args.obp1 } : Ppu).atPhase args.params args.phaseLy args.phaseDot
      params := { args.params with bootRom := args.params.bootRom.map placeBootRom } } }

/-- Reset with a boot ROM (R600): pc 0x0000, the LCD off, nothing in flight, every other register as `draw` has it. The
button states and `p1_lines_prev` are the draw's too, which R600 does not name, and the cartridge registers keep
their reset values of R602 (DESIGN CHOICE, log entry 19). -/
def LoadArgs.bootReset (args : LoadArgs) (cart : Cart) : State :=
  let plain := args.plainReset cart
  let d := args.draw
  { cpu := { d.cpu with
      f := d.cpu.f &&& 0xF0, pc := 0x0000, ime := false, eiDelay := 0, run := .running, haltBug := false, opAddr := 0x0000 }
    bus := { plain.bus with
      irq := d.bus.irq
      timer := { d.bus.timer with tstate := .running }
      serial := { d.bus.serial with bits := 0 }
      joypad := d.bus.joypad
      ppu := { d.bus.ppu with
        lcdc := 0x00, ly := 0, dot := 0, mode := .hblank, l3 := 172, wline := 0
        statLine := false, firstLine := false, sel := [], fb := [] }
      dma := { reg := d.bus.dma.reg, st := .idle }
      bootMapped := true } }

/-- Loading and reset: the image is checked, then the machine is as R600 says, or `CartridgeLoadError` (R119, R406). -/
def LoadArgs.load (args : LoadArgs) : Except LoadError State :=
  match args.image.header.cart args.image.length args.supported with
  | .error e => .error e
  | .ok cart =>
    match args.params.bootRom with
    | none => .ok (args.plainReset cart)
    | some _ => .ok (args.bootReset cart)

/-- The arguments with every open value at the one `State.reset` names (log entries 1, 2, 3, 4, 5). -/
def LoadArgs.default (image : Image) : LoadArgs where
  image := image
  supported := MbcKind.all
  params := Params.default
  phaseLy := 0
  phaseDot := 0
  obp0 := 0
  obp1 := 0
  initialMemory := []
  draw := State.reset

end Sys2Proof.Machine
end

