-- ==== Sys2Proof/Safety.lean ====
section
/-! DEFINITION. What a sound state of the machine is (the invariants that the spec's rules keep, and the canonical form of
the model's lists), and the notions in which the claims are stated: operands, flags, stores, M-cycle counts. -/

namespace Sys2Proof.Machine

/-- F bits 3:0 are always 0 (10_state.md R32, R37). -/
abbrev Cpu.FlagsSound (c : Cpu) : Prop := c.f.extractLsb' 0 4 = 0#4

/-- The lists of bytes and shades are in their one form (log entry 1). -/
abbrev Bus.MemorySound (b : Bus) : Prop := b.mem.wf = true ∧ b.ppu.fb.wf = true

/-- While the LCD is on the stored mode is `Mode(LY, dot)` (60_exceptions.md R502). -/
abbrev Bus.ModeSound (b : Bus) : Prop :=
  b.ppu.lcdOn = true → b.ppu.mode = b.ppu.modeAt b.params.lcdEnableSkipsMode2

/-- The stored STAT line is the OR of its selected conditions (R513). -/
abbrev Bus.StatLineSound (b : Bus) : Prop := b.ppu.statLine = b.ppu.statCondition b.params

/-- The pixel-transfer length and the selected sprites are in their ranges (R505, R525). -/
abbrev Bus.LineSound (b : Bus) : Prop := 172 ≤ b.ppu.l3 ∧ b.ppu.l3 ≤ 289 ∧ b.ppu.sel.length ≤ 10

/-- The visible lines of the current frame that have been rendered (R506). -/
def Ppu.linesRendered (p : Ppu) : Nat := if 144 ≤ p.ly then 144 else if p.dot < 80 + p.l3 then p.ly else p.ly + 1

/-- The window line counter counts visible lines of the current frame (R53, R524, log entry 21), so that it is 0..143
whenever a line is rendered. -/
abbrev Bus.WindowSound (b : Bus) : Prop := b.ppu.wline ≤ 144 ∧ (b.ppu.lcdOn = true → b.ppu.wline ≤ b.ppu.linesRendered)

/-- No invariant of R407 is broken. -/
abbrev State.Valid (s : State) : Prop := s.violation = none

/-- The invariant of the machine. -/
abbrev State.Inv (s : State) : Prop :=
  s.Valid ∧ s.cpu.FlagsSound ∧ s.bus.MemorySound ∧ s.bus.ModeSound ∧ s.bus.StatLineSound ∧ s.bus.LineSound ∧
  s.bus.WindowSound

/-- The next step executes an instruction: the machine runs and no interrupt is dispatched first (R402). -/
abbrev State.Executes (s : State) : Prop :=
  s.cpu.run = .running ∧ s.Valid ∧ ¬ (s.cpu.ime = true ∧ s.bus.pending ≠ 0)

/-- The byte that the operand code `z` names, and the state after reading it: a register, or one read M-cycle at HL
(30_encoding.md R152). -/
def State.source (s : State) (z : BitVec 3) : Byte × State :=
  match reg8OfCode z with
  | some r => (s.cpu.reg r, s)
  | none => (s.readValue s.cpu.hl, s.readCycle s.cpu.hl)

/-- The four flags of F, and its low bits (10_state.md R37). -/
abbrev Cpu.FlagsAre (c : Cpu) (z n h cy : Prop) : Prop :=
  (c.flagZ = true ↔ z) ∧ (c.flagN = true ↔ n) ∧ (c.flagH = true ↔ h) ∧ (c.flagC = true ↔ cy) ∧ c.FlagsSound

/-- The pairs by their code `p` in `rp` (R153). -/
def pairOfCode (p : BitVec 2) : Pair :=
  match p.toNat with
  | 0 => .bc
  | 1 => .de
  | 2 => .hl
  | _ => .sp

/-- The pairs by their code `p` in `rp2` (R153). -/
def stackPairOfCode (p : BitVec 2) : StackPair :=
  match p.toNat with
  | 0 => .bc
  | 1 => .de
  | 2 => .hl
  | _ => .af

/-- The conditions by their code (00_scope.md R23). -/
def condOfCode (cc : BitVec 2) : Cond :=
  match cc.toNat with
  | 0 => .nz
  | 1 => .z
  | 2 => .nc
  | _ => .c

/-- The key of an OAM byte, which the DMA and the OAM bug write as well (60_exceptions.md R483, R520). -/
abbrev IsOamKey (k : Nat) : Prop := 0xFE00 ≤ k ∧ k < 0xFEA0

/-- Nothing but the Cpu writes memory for the length of an instruction: no transfer, no corruption, and a transfer that
the instruction itself starts still waits (R480, R520). -/
abbrev Bus.Quiet (b : Bus) : Prop := b.dma.st = .idle ∧ b.params.oamBug = .off ∧ 1 ≤ b.params.dmaStartup

/-- The two bytes that a push of `v` stores, from the state after its internal M-cycle (41_load16.md R235). -/
def pushStores (v : Word) (s : State) : List (State × Word) :=
  let u := s.internalIdu s.cpu.sp
  [(u, s.cpu.sp - 1), (u.pushByte (highByte v), s.cpu.sp - 2)]

/-- The byte stores of an instruction, in order: the state in which the store happens and its address. -/
def storesOf (i : Instr) (s : State) : List (State × Word) :=
  match i with
  | .ldAtHlB | .ldAtHlC | .ldAtHlD | .ldAtHlE | .ldAtHlH | .ldAtHlL
  | .ldAtHlA | .ldAtHlIncA | .ldAtHlDecA | .ldAtHlN _ => [(s, s.cpu.hl)]
  | .ldAtBcA => [(s, s.cpu.pair .bc)]
  | .ldAtDeA => [(s, s.cpu.pair .de)]
  | .ldAtNnA nn => [(s, nn)]
  | .ldhAtNA n => [(s, highPage n)]
  | .ldhAtCA => [(s, highPage s.cpu.c)]
  | .ldAtNnSp nn => [(s, nn), (s.writeCycle nn (lowByte s.cpu.sp), nn + 1)]
  | .incAtHl | .decAtHl | .rlcAtHl | .rrcAtHl | .rlAtHl | .rrAtHl
  | .slaAtHl | .sraAtHl | .swapAtHl | .srlAtHl | .res0AtHl | .res1AtHl
  | .res2AtHl | .res3AtHl | .res4AtHl | .res5AtHl | .res6AtHl | .res7AtHl
  | .set0AtHl | .set1AtHl | .set2AtHl | .set3AtHl | .set4AtHl | .set5AtHl
  | .set6AtHl | .set7AtHl => [(s.readCycle s.cpu.hl, s.cpu.hl)]
  | .prefixCb op2 => if op2.extractLsb' 0 3 = 6 ∧ op2.extractLsb' 6 2 ≠ 1 then [(s.readCycle s.cpu.hl, s.cpu.hl)] else []
  | .pushBc => pushStores (s.cpu.stackPair .bc) s
  | .pushDe => pushStores (s.cpu.stackPair .de) s
  | .pushHl => pushStores (s.cpu.stackPair .hl) s
  | .pushAf => pushStores (s.cpu.stackPair .af) s
  | .callNn _ | .rst00 | .rst08 | .rst10 | .rst18 | .rst20
  | .rst28 | .rst30 | .rst38 => pushStores s.cpu.pc s
  | .callNzNn _ => if s.cpu.cond .nz then pushStores s.cpu.pc s else []
  | .callZNn _ => if s.cpu.cond .z then pushStores s.cpu.pc s else []
  | .callNcNn _ => if s.cpu.cond .nc then pushStores s.cpu.pc s else []
  | .callCNn _ => if s.cpu.cond .c then pushStores s.cpu.pc s else []
  | _ => []

/-- The cycle column of the unprefixed map (30_encoding.md R160): the cost of each opcode, a condition not taken. The
prefix counts as its own fetch (46_system.md R365). -/
def opCycles : List Nat :=
  [1, 3, 2, 2, 1, 1, 2, 1, 5, 2, 2, 2, 1, 1, 2, 1,
   1, 3, 2, 2, 1, 1, 2, 1, 3, 2, 2, 2, 1, 1, 2, 1,
   2, 3, 2, 2, 1, 1, 2, 1, 2, 2, 2, 2, 1, 1, 2, 1,
   2, 3, 2, 2, 3, 3, 3, 1, 2, 2, 2, 2, 1, 1, 2, 1,
   1, 1, 1, 1, 1, 1, 2, 1, 1, 1, 1, 1, 1, 1, 2, 1,
   1, 1, 1, 1, 1, 1, 2, 1, 1, 1, 1, 1, 1, 1, 2, 1,
   1, 1, 1, 1, 1, 1, 2, 1, 1, 1, 1, 1, 1, 1, 2, 1,
   2, 2, 2, 2, 2, 2, 1, 2, 1, 1, 1, 1, 1, 1, 2, 1,
   1, 1, 1, 1, 1, 1, 2, 1, 1, 1, 1, 1, 1, 1, 2, 1,
   1, 1, 1, 1, 1, 1, 2, 1, 1, 1, 1, 1, 1, 1, 2, 1,
   1, 1, 1, 1, 1, 1, 2, 1, 1, 1, 1, 1, 1, 1, 2, 1,
   1, 1, 1, 1, 1, 1, 2, 1, 1, 1, 1, 1, 1, 1, 2, 1,
   2, 3, 3, 4, 3, 4, 2, 4, 2, 4, 3, 1, 3, 6, 2, 4,
   2, 3, 3, 1, 3, 4, 2, 4, 2, 4, 3, 1, 3, 1, 2, 4,
   3, 3, 2, 1, 1, 4, 2, 4, 4, 1, 4, 1, 1, 1, 2, 4,
   3, 3, 2, 1, 1, 4, 2, 4, 3, 2, 4, 1, 1, 1, 2, 4]

/-- The cost of a prefixed instruction by its second byte (R164, 44_rotate_shift_bit.md R304), the prefix included. -/
def prefixedCycles (op2 : Byte) : Nat :=
  if op2.extractLsb' 0 3 = 6 then (if op2.extractLsb' 6 2 = 1 then 3 else 4) else 2

/-- The condition of an opcode, with the M-cycles a taken one adds (45_control.md R331, R334, R336, R338). -/
def conditionOf (op : Byte) : Option (Cond × Nat) :=
  let cc := condOfCode (op.extractLsb' 3 2)
  if op = 0x20 ∨ op = 0x28 ∨ op = 0x30 ∨ op = 0x38 then some (cc, 1)
  else if op = 0xC2 ∨ op = 0xCA ∨ op = 0xD2 ∨ op = 0xDA then some (cc, 1)
  else if op = 0xC4 ∨ op = 0xCC ∨ op = 0xD4 ∨ op = 0xDC then some (cc, 3)
  else if op = 0xC0 ∨ op = 0xC8 ∨ op = 0xD0 ∨ op = 0xD8 then some (cc, 3)
  else none

/-- The M-cycles of the instruction with opcode `op` and next byte `b1` (70_reset_and_hazards.md R640). -/
def instrCycles (c : Cpu) (op b1 : Byte) : Nat :=
  if op = 0xCB then prefixedCycles b1
  else
    opCycles.getD op.toNat 0 +
      (match conditionOf op with
       | some (cc, extra) => if c.cond cc then extra else 0
       | none => 0)

/-- The eleven illegal opcodes (30_encoding.md R165) with their constructors. -/
def illegalInstrs : List (Instr × Byte) :=
  [(.illegalD3, 0xD3), (.illegalDB, 0xDB), (.illegalDD, 0xDD), (.illegalE3, 0xE3), (.illegalE4, 0xE4), (.illegalEB, 0xEB),
   (.illegalEC, 0xEC), (.illegalED, 0xED), (.illegalF4, 0xF4), (.illegalFC, 0xFC), (.illegalFD, 0xFD)]

/-- The eleven illegal opcodes (R165). -/
def illegalOpcodes : List Byte := [0xD3, 0xDB, 0xDD, 0xE3, 0xE4, 0xEB, 0xEC, 0xED, 0xF4, 0xFC, 0xFD]

/-- The unprefixed opcodes that write F (10_state.md R39): 42_alu8.md, ADD HL,rr, ADD SP,e, LD HL,SP+e, the accumulator
rotates, POP AF. -/
def flagOpcodes : List Byte :=
  [0x04, 0x0C, 0x14, 0x1C, 0x24, 0x2C, 0x34, 0x3C, 0x05, 0x0D, 0x15, 0x1D, 0x25, 0x2D, 0x35, 0x3D] ++
  [0x27, 0x2F, 0x37, 0x3F, 0xC6, 0xCE, 0xD6, 0xDE, 0xE6, 0xEE, 0xF6, 0xFE] ++
  [0x09, 0x19, 0x29, 0x39, 0xE8, 0xF8, 0x07, 0x0F, 0x17, 0x1F, 0xF1]

/-- The writers of F (R39) by their bytes: the opcodes above, 0x80..0xBF, and the prefixed set except RES and SET. -/
def writesF (i : Instr) : Bool :=
  match encode i with
  | [] => false
  | op :: rest =>
    if op = 0xCB then rest.head?.any (fun op2 => decide (op2.toNat < 0x80))
    else decide (op ∈ flagOpcodes) || decide (0x80 ≤ op.toNat ∧ op.toNat ≤ 0xBF)

/-- The opcodes of the instructions that write SP (10_state.md R34): LD SP,nn, LD SP,HL, ADD SP,e, INC SP, DEC SP, PUSH,
POP, CALL, RET, RETI, RST. -/
def spOpcodes : List Byte :=
  [0x31, 0xF9, 0xE8, 0x33, 0x3B, 0xC5, 0xD5, 0xE5, 0xF5, 0xC1, 0xD1, 0xE1, 0xF1] ++
  [0xC4, 0xCC, 0xD4, 0xDC, 0xCD, 0xC0, 0xC8, 0xD0, 0xD8, 0xC9, 0xD9] ++
  [0xC7, 0xCF, 0xD7, 0xDF, 0xE7, 0xEF, 0xF7, 0xFF]

/-- The instruction is one of those. -/
def writesSp (i : Instr) : Bool := decide ((encode i).headD 0 ∈ spOpcodes)

/-- PUSH and POP by their pair (41_load16.md R235, R236). -/
def pushInstr : StackPair → Instr
  | .bc => .pushBc
  | .de => .pushDe
  | .hl => .pushHl
  | .af => .pushAf

def popInstr : StackPair → Instr
  | .bc => .popBc
  | .de => .popDe
  | .hl => .popHl
  | .af => .popAf

/-- `b` after `n` M-cycles without a Cpu access. -/
def Bus.idle : Nat → Bus → Bus
  | 0, b => b
  | n + 1, b => Bus.idle n (b.advance none)

/-- The devices after `n` edges of the serial clock. -/
def Bus.shiftEdges : Nat → Bus → Bus
  | 0, b => b
  | n + 1, b => Bus.shiftEdges n b.serialShiftEdge

/-- The packed BCD byte of a number below 100. -/
def bcd (x : Nat) : Byte := BitVec.ofNat 8 (16 * (x / 10) + x % 10)

/-- The position of the PPU in its frame of 154 lines of 456 dots (60_exceptions.md R500). -/
def Ppu.position (p : Ppu) : Nat := p.ly * 456 + p.dot

/-- HRAM (20_memory.md R81). -/
abbrev InHram (a : Word) : Prop := 0xFF80 ≤ a.toNat ∧ a.toNat ≤ 0xFFFE

/-- What an addition of `v` and the carry `c` to A leaves, with the M-cycles up to `u` (R250 `add`). -/
def SumResult (i : Instr) (s u : State) (v : Byte) (c : Nat) : Prop :=
  ∃ t, exec i s = .next t ∧ t.bus = u.bus ∧ t.cpu = { s.cpu with a := t.cpu.a, f := t.cpu.f } ∧
    t.cpu.a.toNat = (s.cpu.a.toNat + v.toNat + c) % 256 ∧
    t.cpu.FlagsAre (t.cpu.a = 0) False (s.cpu.a.toNat % 16 + v.toNat % 16 + c > 0x0F) (s.cpu.a.toNat + v.toNat + c > 0xFF)

/-- What a subtraction of `v` and the borrow `c` from A leaves; `keep`: A is not written (R250 `sub`). -/
def DifferenceResult (i : Instr) (s u : State) (v : Byte) (c : Nat) (keep : Bool) : Prop :=
  ∃ (t : State) (res : Byte), exec i s = .next t ∧ t.bus = u.bus ∧
    t.cpu = { s.cpu with a := if keep then s.cpu.a else res, f := t.cpu.f } ∧
    (res.toNat : Int) = ((s.cpu.a.toNat : Int) - v.toNat - c) % 256 ∧
    t.cpu.FlagsAre (res = 0) True (s.cpu.a.toNat % 16 < v.toNat % 16 + c) (s.cpu.a.toNat < v.toNat + c)

/-- What a bitwise operation leaves: each bit of A by `g`, H as given, N and C 0 (R250 `and`, `xor`, `or`). -/
def LogicResult (i : Instr) (s u : State) (v : Byte) (g : Bool → Bool → Bool) (h : Prop) : Prop :=
  ∃ t, exec i s = .next t ∧ t.bus = u.bus ∧ t.cpu = { s.cpu with a := t.cpu.a, f := t.cpu.f } ∧
    (∀ j, j < 8 → t.cpu.a.getLsbD j = g (s.cpu.a.getLsbD j) (v.getLsbD j)) ∧
    t.cpu.FlagsAre (t.cpu.a = 0) False h False

/-- The result of each rotate or shift `y` on the byte `v` with carry-in `c`, on the integers (R300 to R320). -/
def rotated (y : BitVec 3) (v c : Nat) : Nat :=
  match y.toNat with
  | 0 => v * 2 % 256 + v / 128
  | 1 => v / 2 + v % 2 * 128
  | 2 => v * 2 % 256 + c
  | 3 => v / 2 + c * 128
  | 4 => v * 2 % 256
  | 5 => v / 2 + v / 128 * 128
  | 6 => v % 16 * 16 + v / 16
  | _ => v / 2

/-- The carry each leaves: the bit shifted out, 0 for SWAP. -/
def rotatedOut (y : BitVec 3) (v : Nat) : Prop :=
  match y.toNat with
  | 0 | 2 | 4 => 128 ≤ v
  | 6 => False
  | _ => v % 2 = 1

/-- What a call to `target` leaves: an internal M-cycle, pc's high byte at SP - 1, its low byte at SP - 2 (R335). -/
def Called (s t : State) (target : Word) : Prop :=
  let u1 := s.bus.advance (some s.cpu.sp)
  let u2 := (u1.cpuWrite (s.cpu.sp - 1) (BitVec.ofNat 8 (s.cpu.pc.toNat / 256))).advance (some (s.cpu.sp - 1))
  t = { cpu := { s.cpu with sp := s.cpu.sp - 2, pc := target }
        bus := (u2.cpuWrite (s.cpu.sp - 2) (BitVec.ofNat 8 s.cpu.pc.toNat)).advance (some (s.cpu.sp - 2)) }

/-- What a return from the state `s` with the bus `b` leaves: the low byte at SP, the high byte at SP + 1, an internal
M-cycle (R337). -/
def Returned (s t : State) (b : Bus) : Prop :=
  let u1 := b.advance (some s.cpu.sp)
  t = { cpu := { s.cpu with sp := s.cpu.sp + 2, pc := joinBytes (u1.cpuRead (s.cpu.sp + 1)) (b.cpuRead s.cpu.sp) }
        bus := (u1.advance (some (s.cpu.sp + 1))).advance none }

end Sys2Proof.Machine
end

