-- ==== Sys2Proof/Certificates/Slice0/Obligations.lean ====
section
/-! DEFINITION. The statements about the machine. Each one formalises the rules of spec/ that its docstring names. `exec i s`
runs `i` from the state after its last byte is fetched, so pc is the address after the instruction (10_state.md R35). -/

open Sys2Proof Sys2Proof.Machine

/-! ## Encoding -/

/-- Decoding the bytes of a well-formed instruction gives it back with the rest of the bytes, for every instruction and
every operand (R160, R164). -/
def Obligations.DecodeEncode : Prop :=
  ∀ (i : Instr) (rest : List Byte), i.wellFormed = true → decode (encode i ++ rest) = .ok (i, rest)

/-- Every decoded byte string is the encoding of its instruction, but for STOP's second byte, which may be anything (R167);
what is decoded is well formed (R166, R169). -/
def Obligations.DecodeInverse : Prop :=
  ∀ (bs : List Byte) (i : Instr) (rest : List Byte), decode bs = .ok (i, rest) →
    i.wellFormed = true ∧
    (i ≠ .stop → bs = encode i ++ rest) ∧
    (i = .stop → ∃ n, bs = 0x10 :: n :: rest)

/-- Words written out from the encodings of R200, R230, R256, R290, R321, R318, R336, R167 and R165, in this order, decode to
their instructions. The last two clauses are the model's choice, no rule of the spec (log entry 27): the decoder names as
truncated a list of bytes that ends inside an instruction, here JP nn (R330) without its last byte, and as empty the list
of no bytes. -/
def Obligations.DecodeWords : Prop :=
  decode [0x41] = .ok (.ldBC, []) ∧
  decode [0x31, 0xFF, 0xDF] = .ok (.ldSpNn 0xDFFF, []) ∧
  decode [0xCE, 0x12] = .ok (.adcAN 0x12, []) ∧
  decode [0x29] = .ok (.addHlHl, []) ∧
  decode [0xCB, 0x7C] = .ok (.bit7H, []) ∧
  decode [0xCB, 0x36] = .ok (.swapAtHl, []) ∧
  decode [0xDC, 0x34, 0x12] = .ok (.callCNn 0x1234, []) ∧
  decode [0x10, 0x5A] = .ok (.stop, []) ∧
  decode [0xDD] = .ok (.illegalDD, []) ∧
  decode [0xC3, 0x50] = .error (.truncated 0xC3) ∧
  decode [] = .error .empty

/-! ## The step -/

/-- When the bytes fetched decode to `i`, the step is the fetch M-cycles, then `exec` of `i`, then the end of the
instruction (R402, R411). -/
def Obligations.StepRunsDecoded : Prop :=
  ∀ (s : State) (i : Instr), s.Executes → decode s.fetchedBytes = .ok (i, []) →
    i.wellFormed = true ∧
    (∀ t, exec i s.fetched = .next t → step s = .next t.endOfInstruction) ∧
    (∀ x, exec i s.fetched = .fault x → step s = .fault x) ∧
    (∀ x, exec i s.fetched = .refused x → step s = .refused x)

/-- Fetching always gives an instruction; it costs one M-cycle for each byte (STOP's second byte aside), moves pc past
those bytes, modulo 2^16, one less under the halt bug, and changes no other register (R35, R36, R403). -/
def Obligations.FetchCycles : Prop :=
  ∀ s : State,
    (∃ i, decode s.fetchedBytes = .ok (i, []) ∧ s.fetchedInstr = i) ∧
    s.fetched.cpu = { s.cpu with pc := s.fetched.cpu.pc, haltBug := false, opAddr := s.cpu.pc } ∧
    s.fetched.cpu.pc.toNat = (s.cpu.pc.toNat + busLength s.opByte - (if s.cpu.haltBug then 1 else 0)) % 65536 ∧
    s.fetched.bus.cycles = s.bus.cycles + busLength s.opByte ∧
    (s.cpu.haltBug = true → s.fetchOpcode.cpu.pc = s.cpu.pc) ∧
    s.opByte = s.bus.cpuRead s.cpu.pc

/-- An illegal opcode costs its fetch M-cycle, then the machine is Faulted with the opcode and the address it was fetched
from (R405; the address under the halt bug and the state in the fault are log entries 12 and 13); every later step returns the
same fault and changes nothing. -/
def Obligations.IllegalOpcode : Prop :=
  (∀ s : State, s.Executes → s.opByte ∈ illegalOpcodes →
    ∃ t, step s = .fault (.unimplementedOpcode s.opByte s.cpu.pc t) ∧
      t.cpu = { s.cpu with
        run := .faulted s.opByte s.cpu.pc
        pc := if s.cpu.haltBug then s.cpu.pc else s.cpu.pc + 1
        haltBug := false, opAddr := s.cpu.pc } ∧
      t.bus = s.bus.advance (some s.cpu.pc)) ∧
  (∀ (s : State) (op : Byte) (addr : Word), s.cpu.run = .faulted op addr →
    step s = .fault (.unimplementedOpcode op addr s))

/-- A stopped machine does nothing until a selected joypad line is low, whatever interrupt is pending; then the same step
runs (R424). -/
def Obligations.StoppedHold : Prop :=
  ∀ s : State, s.cpu.run = .stopped → s.Valid →
    (s.bus.joypad.lines = 0xF → step s = .next s) ∧
    (s.bus.joypad.lines ≠ 0xF → step s = step { s with cpu := { s.cpu with run := .running } })

/-- A halted machine idles one M-cycle while nothing is pending; with an enabled request pending it leaves Halted whatever
IME is: after the exit delay the same step goes on as a running machine, the request still pending (R415, R416). -/
def Obligations.HaltedStep : Prop :=
  ∀ s : State, s.cpu.run = .halted → s.Valid →
    (s.bus.pending = 0 → step s = .next { s with bus := s.bus.advance none }) ∧
    (s.bus.pending ≠ 0 →
      let n := if s.cpu.ime then s.bus.params.haltExitIme1 else s.bus.params.haltExitIme0
      let u : State := { cpu := { s.cpu with run := .running }, bus := Bus.idle n s.bus }
      u.Valid ∧ u.bus.pending ≠ 0 ∧ step s = step u)

/-- Taking an interrupt: five M-cycles; the return address on the stack, high byte first; IME, `ei_delay` and the halt bug
cleared; pc at the vector of the lowest request pending after the high byte is pushed, which is cleared; 0 if none is left;
no other register changes (R412, R413, R414). -/
def Obligations.InterruptDispatch : Prop :=
  ∀ s : State, s.cpu.run = .running → s.Valid → s.cpu.ime = true → s.bus.pending ≠ 0 →
    let ret := if s.cpu.haltBug then s.cpu.pc - 1 else s.cpu.pc
    let b2 := (s.bus.advance none).advance none
    let b3 := (b2.cpuWrite (s.cpu.sp - 1) (highByte ret)).advance (some (s.cpu.sp - 1))
    let b4 := (b3.cpuWrite (s.cpu.sp - 2) (lowByte ret)).advance (some (s.cpu.sp - 2))
    ∃ t, step s = .next t ∧
      t.cpu = { s.cpu with ime := false, eiDelay := 0, haltBug := false, sp := s.cpu.sp - 2, pc := t.cpu.pc } ∧
      t.bus.cycles = s.bus.cycles + 5 ∧
      (b3.pending = 0 → t.cpu.pc = 0 ∧ t.bus = b4.advance none) ∧
      (∀ k : Nat, k < 5 → b3.pending.getLsbD k = true → (∀ j, j < k → b3.pending.getLsbD j = false) →
        t.cpu.pc.toNat = 0x40 + 8 * k ∧
        ∃ q : BitVec 5, (∀ j, j < 5 → q.getLsbD j = (b4.irq.iflag.getLsbD j && decide (j ≠ k))) ∧
          t.bus = ({ b4 with irq := { b4.irq with iflag := q } } : Bus).advance none)

/-- EI takes effect after the next instruction: EI leaves IME 0 with the enable one instruction away; the next step then
executes an instruction whatever is pending, and IME is 1 at its end unless it was DI (R411, R364, R363). -/
def Obligations.EiLatency : Prop :=
  (∀ s : State, s.Executes → s.cpu.ime = false → s.cpu.eiDelay = 0 → s.opByte = 0xFB →
    ∃ t, step s = .next t ∧ t.cpu.ime = false ∧ t.cpu.eiDelay = 1 ∧ t.cpu.run = .running) ∧
  (∀ s : State, s.cpu.run = .running → s.Valid → s.cpu.eiDelay = 1 →
    s.cpu.ime = false ∧
    (∀ t, step s = .next t →
      (∃ u, exec s.fetchedInstr s.fetched = .next u ∧ t = u.endOfInstruction) ∧
      (s.fetchedInstr ≠ .di → t.cpu.ime = true ∧ t.cpu.eiDelay = 0) ∧
      (s.fetchedInstr = .di → t.cpu.ime = false ∧ t.cpu.eiDelay = 0)))

/-! ## Whole-machine rules -/

/-- Every step keeps the invariants of R407, F's low bits at 0 (R32), the stored mode (R502), the STAT line (R513), the
ranges of a line's state (R505, R525), the window line counter (R524) and the canonical form of memory. Two of these are
the model's choices: that the counter is at most 144 and starts again when the LCD is turned on, where R53 says 0..143 and
R509 does not list it (log entry 21), and the canonical form (log entry 1). -/
def Obligations.StepKeepsInv : Prop := ∀ s t : State, s.Inv → step s = .next t → t.Inv

/-- The invariant holds after reset (the open values of `State.reset` are the model's choices, log entries 1 to 6, and
the invariant's clause on the window line counter rests on log entry 21). -/
def Obligations.ResetInv : Prop := State.reset.Inv

/-- Every accepted image starts in a state of the invariant (R600, R407), whatever the parameters, the PPU phase (R604),
OBP0, OBP1 and the first contents of the memories (R605). With a boot ROM, where R600 makes every register it does not set
a draw, the statement rests on the model's choice (log entry 19): stat_line, wline, L3, the selected sprites,
first_line_after_enable, the frame buffer and the cartridge registers keep their reset values; it holds for every draw of
the other registers, the button states and p1_lines_prev (F's low bits are 0 by R32). The canonical form of the
memories is the model's too (log entry 1), and so is the invariant's clause on the window line counter (log entry 21). -/
def Obligations.LoadInv : Prop := ∀ (args : LoadArgs) (s : State), args.load = .ok s → s.Inv

/-- Every instruction but the eleven illegal opcodes answers a next state, from every state and for all operands (R408); an
illegal opcode answers its fault, the machine Faulted (R366, R405). In that second clause the address, `opAddr`, is the
model's choice where R366 and R405 differ (log entry 12), and so is the state that the fault carries (log entry 13). -/
def Obligations.ExecOutcomes : Prop :=
  (∀ (i : Instr) (s : State), i ∉ illegalInstrs.map Prod.fst → ∃ t, exec i s = .next t) ∧
  (∀ (i : Instr) (op : Byte) (s : State), (i, op) ∈ illegalInstrs →
    exec i s = .fault (.unimplementedOpcode op s.cpu.opAddr
      { s with cpu := { s.cpu with run := .faulted op s.cpu.opAddr } }))

/-- No step refuses or breaks an invariant (log entry 14): from a valid state it gives a next state or the UnimplementedOpcode fault with
the machine Faulted (R408). -/
def Obligations.StepOutcomes : Prop :=
  ∀ s : State, s.Valid →
    (∃ t, step s = .next t) ∨
    (∃ op addr t, step s = .fault (.unimplementedOpcode op addr t) ∧ t.cpu.run = .faulted op addr)

/-- No instruction but EI, DI and RETI writes IME or `ei_delay` (R410); none but HALT and STOP changes the run mode; none
but HALT sets the halt bug. -/
def Obligations.ImeWriters : Prop :=
  ∀ (i : Instr) (s t : State), exec i s = .next t →
    (i ≠ .ei → i ≠ .di → i ≠ .reti → t.cpu.ime = s.cpu.ime ∧ t.cpu.eiDelay = s.cpu.eiDelay) ∧
    (i ≠ .halt → i ≠ .stop → t.cpu.run = s.cpu.run) ∧
    (i ≠ .halt → t.cpu.haltBug = s.cpu.haltBug)

/-- Only the instructions that R39 lists write F, and F's low bits stay 0 (R32); taking an interrupt writes no flag, and no
device reaches the Cpu (`Bus.advance` has no Cpu to write). -/
def Obligations.FlagWriters : Prop :=
  (∀ (i : Instr) (s t : State), exec i s = .next t →
    (writesF i = false → t.cpu.f = s.cpu.f) ∧ (s.cpu.FlagsSound → t.cpu.FlagsSound)) ∧
  (∀ s : State, s.dispatch.cpu.f = s.cpu.f)

/-- Only the instructions that R34 lists write SP. -/
def Obligations.SpWriters : Prop :=
  ∀ (i : Instr) (s t : State), exec i s = .next t → writesSp i = false → t.cpu.sp = s.cpu.sp

/-- No step changes a byte of the ROM image, of up to 8 MiB (R107, R118). -/
def Obligations.RomImmutable : Prop :=
  ∀ (s t : State) (o : Nat), s.bus.mem.wf = true → step s = .next t → o < 0x800000 →
    t.bus.mem.read (romKey o) = s.bus.mem.read (romKey o)

/-- The M-cycles of every instruction are its base cost, and its extended cost exactly when its condition holds (R640). -/
def Obligations.CycleCounts : Prop :=
  ∀ s t : State, s.Executes → step s = .next t →
    t.bus.cycles = s.bus.cycles + instrCycles s.cpu s.opByte (s.immByte 0)

/-- What is fixed for the session no step changes: the parameters, the header's sizes (R119), the buttons, which the host
alone writes (R49); and the boot ROM is never mapped again (R601). -/
def Obligations.SessionConstants : Prop :=
  ∀ s t : State, step s = .next t →
    t.bus.params = s.bus.params ∧ t.bus.cart.romBanks = s.bus.cart.romBanks ∧ t.bus.cart.ramSize = s.bus.cart.ramSize ∧
    t.bus.joypad.buttons = s.bus.joypad.buttons ∧ (t.bus.bootMapped = true → s.bus.bootMapped = true)

/-- The memory frame of every instruction: a byte that it does not store to reads as before, outside OAM always, and in OAM
too where the DMA and the OAM bug are silent. The stores and their addresses are those of `storesOf` (R87, R91). -/
def Obligations.MemoryFrame : Prop :=
  ∀ (i : Instr) (s t : State) (k : Nat), exec i s = .next t → s.bus.mem.wf = true → s.Valid →
    (¬ IsOamKey k ∨ s.bus.Quiet) →
    (∀ p ∈ storesOf i s, p.1.bus.storeKey p.2 ≠ some k) →
    t.bus.mem.read k = s.bus.mem.read k

/-! ## 8-bit loads -/

/-- `LD r,r'`, `LD r,n`, `LD r,(HL)`, `LD (HL),r` and `LD (HL),n` by their opcode fields: the register or the byte written,
the M-cycle at HL, and nothing else (R200 to R204). -/
def Obligations.LoadRegister : Prop :=
  ∀ (y z : BitVec 3) (b1 b2 : Byte) (s : State) (r r' : Reg8), reg8OfCode y = some r → reg8OfCode z = some r' →
    exec (decodeOp (1#2 ++ y ++ z) b1 b2) s = .next { s with cpu := s.cpu.setReg r (s.cpu.reg r') } ∧
    exec (decodeOp (0#2 ++ y ++ 6#3) b1 b2) s = .next { s with cpu := s.cpu.setReg r b1 } ∧
    exec (decodeOp (1#2 ++ y ++ 6#3) b1 b2) s =
      .next { cpu := s.cpu.setReg r (s.bus.cpuRead s.cpu.hl), bus := s.bus.advance (some s.cpu.hl) } ∧
    exec (decodeOp (1#2 ++ 6#3 ++ z) b1 b2) s =
      .next { s with bus := (s.bus.cpuWrite s.cpu.hl (s.cpu.reg r')).advance (some s.cpu.hl) } ∧
    exec (decodeOp 0x36 b1 b2) s =
      .next { s with bus := (s.bus.cpuWrite s.cpu.hl b1).advance (some s.cpu.hl) }

/-- The loads and stores of A through BC, DE, nn, the high page 0xFF00 + n and 0xFF00 + C, and HL with HL stepped by one
modulo 2^16 after the access (R205 to R218). -/
def Obligations.LoadAccumulator : Prop :=
  ∀ (s : State) (n : Byte) (nn : Word),
    (∀ p ∈ [(Instr.ldAAtBc, s.cpu.pair .bc), (.ldAAtDe, s.cpu.pair .de), (.ldAAtNn nn, nn),
            (.ldhAAtN n, BitVec.ofNat 16 (0xFF00 + n.toNat)), (.ldhAAtC, BitVec.ofNat 16 (0xFF00 + s.cpu.c.toNat))],
      exec p.1 s = .next { cpu := { s.cpu with a := s.bus.cpuRead p.2 }, bus := s.bus.advance (some p.2) }) ∧
    (∀ p ∈ [(Instr.ldAtBcA, s.cpu.pair .bc), (.ldAtDeA, s.cpu.pair .de), (.ldAtNnA nn, nn),
            (.ldhAtNA n, BitVec.ofNat 16 (0xFF00 + n.toNat)), (.ldhAtCA, BitVec.ofNat 16 (0xFF00 + s.cpu.c.toNat))],
      exec p.1 s = .next { s with bus := (s.bus.cpuWrite p.2 s.cpu.a).advance (some p.2) }) ∧
    (∀ p ∈ [(Instr.ldAAtHlInc, 1), (.ldAAtHlDec, 65535)],
      ∃ t, exec p.1 s = .next t ∧ t.bus = s.bus.advance (some s.cpu.hl) ∧
        t.cpu = { s.cpu with a := s.bus.cpuRead s.cpu.hl, h := t.cpu.h, l := t.cpu.l } ∧
        t.cpu.h.toNat * 256 + t.cpu.l.toNat = (s.cpu.h.toNat * 256 + s.cpu.l.toNat + p.2) % 65536) ∧
    (∀ p ∈ [(Instr.ldAtHlIncA, 1), (.ldAtHlDecA, 65535)],
      ∃ t, exec p.1 s = .next t ∧ t.bus = (s.bus.cpuWrite s.cpu.hl s.cpu.a).advance (some s.cpu.hl) ∧
        t.cpu = { s.cpu with h := t.cpu.h, l := t.cpu.l } ∧
        t.cpu.h.toNat * 256 + t.cpu.l.toNat = (s.cpu.h.toNat * 256 + s.cpu.l.toNat + p.2) % 65536)

/-! ## 16-bit loads and the stack -/

/-- `LD rr,nn` with the bytes in their halves, `LD SP,HL`, `LD (nn),SP` low byte first with nn + 1 modulo 2^16
(R230, R231, R232). -/
def Obligations.Load16 : Prop :=
  ∀ (s : State) (lo hi : Byte),
    exec (decodeOp 0x01 lo hi) s = .next { s with cpu := { s.cpu with b := hi, c := lo } } ∧
    exec (decodeOp 0x11 lo hi) s = .next { s with cpu := { s.cpu with d := hi, e := lo } } ∧
    exec (decodeOp 0x21 lo hi) s = .next { s with cpu := { s.cpu with h := hi, l := lo } } ∧
    exec (decodeOp 0x31 lo hi) s =
      .next { s with cpu := { s.cpu with sp := BitVec.ofNat 16 (hi.toNat * 256 + lo.toNat) } } ∧
    (let hl := BitVec.ofNat 16 (s.cpu.h.toNat * 256 + s.cpu.l.toNat)
     exec .ldSpHl s = .next { cpu := { s.cpu with sp := hl }, bus := s.bus.advance (some hl) }) ∧
    (let nn := BitVec.ofNat 16 (hi.toNat * 256 + lo.toNat)
     let b1 := (s.bus.cpuWrite nn (BitVec.ofNat 8 s.cpu.sp.toNat)).advance (some nn)
     exec (decodeOp 0x08 lo hi) s =
       .next { s with bus := (b1.cpuWrite (nn + 1) (BitVec.ofNat 8 (s.cpu.sp.toNat / 256))).advance (some (nn + 1)) })

/-- `LD HL,SP+e` and `ADD SP,e`: the sum with the signed byte modulo 2^16, one and two internal M-cycles, H and C from the
unsigned low bytes, Z and N 0 (R233, R293). -/
def Obligations.SpOffset : Prop :=
  ∀ (s : State) (e : Byte),
    (∃ t, exec (.ldHlSpE e) s = .next t ∧ t.bus = s.bus.advance none ∧
      t.cpu = { s.cpu with h := t.cpu.h, l := t.cpu.l, f := t.cpu.f } ∧
      (t.cpu.h.toNat * 256 + t.cpu.l.toNat : Int) = (s.cpu.sp.toNat + e.toInt) % 65536 ∧
      t.cpu.FlagsAre False False (s.cpu.sp.toNat % 16 + e.toNat % 16 > 0x0F) (s.cpu.sp.toNat % 256 + e.toNat > 0xFF)) ∧
    (∃ t, exec (.addSpE e) s = .next t ∧ t.bus = (s.bus.advance none).advance none ∧
      t.cpu = { s.cpu with sp := t.cpu.sp, f := t.cpu.f } ∧
      (t.cpu.sp.toNat : Int) = (s.cpu.sp.toNat + e.toInt) % 65536 ∧
      t.cpu.FlagsAre False False (s.cpu.sp.toNat % 16 + e.toNat % 16 > 0x0F) (s.cpu.sp.toNat % 256 + e.toNat > 0xFF))

/-- PUSH stores the high byte at SP - 1, then the low byte at SP - 2; POP reads the low byte at SP, then the high byte at
SP + 1, and POP AF keeps bits 7:4 of F only; no other register changes (R235, R236). -/
def Obligations.PushPop : Prop :=
  ∀ (p : BitVec 2) (b1 b2 : Byte) (s : State),
    (let v := s.cpu.stackPair (stackPairOfCode p)
     let u1 := s.bus.advance (some s.cpu.sp)
     let u2 := (u1.cpuWrite (s.cpu.sp - 1) (BitVec.ofNat 8 (v.toNat / 256))).advance (some (s.cpu.sp - 1))
     exec (decodeOp (3#2 ++ p ++ 5#4) b1 b2) s =
       .next { cpu := { s.cpu with sp := s.cpu.sp - 2 }
               bus := (u2.cpuWrite (s.cpu.sp - 2) (BitVec.ofNat 8 v.toNat)).advance (some (s.cpu.sp - 2)) }) ∧
    (let lo := s.bus.cpuRead s.cpu.sp
     let u1 := s.bus.advance (some s.cpu.sp)
     let hi := u1.cpuRead (s.cpu.sp + 1)
     let c := { s.cpu with sp := s.cpu.sp + 2 }
     exec (decodeOp (3#2 ++ p ++ 1#4) b1 b2) s =
       .next { cpu :=
                 match stackPairOfCode p with
                 | .bc => { c with b := hi, c := lo }
                 | .de => { c with d := hi, e := lo }
                 | .hl => { c with h := hi, l := lo }
                 | .af => { c with a := hi, f := lo &&& 0xF0 }
               bus := u1.advance (some (s.cpu.sp + 1)) })

/-- A pair pushed on a stack in HRAM and popped into any pair comes back, F's low bits aside, with SP as before
(R235, R236, R94). -/
def Obligations.PushPopRoundTrip : Prop :=
  ∀ (p q : StackPair) (s : State), s.bus.mem.wf = true → s.Valid → InHram (s.cpu.sp - 1) → InHram (s.cpu.sp - 2) →
    ∃ t u, exec (pushInstr p) s = .next t ∧ exec (popInstr q) t = .next u ∧
      u.cpu.stackPair q = (if q = .af then s.cpu.stackPair p &&& 0xFFF0 else s.cpu.stackPair p) ∧
      u.cpu.sp = s.cpu.sp ∧ u.cpu.pc = s.cpu.pc

/-! ## 8-bit arithmetic and logic -/

/-- ADD (y = 0) and ADC (y = 1) of a register, of the byte at HL and of an immediate byte (R250 to R256). -/
def Obligations.AddAdc : Prop :=
  ∀ (y z : BitVec 3) (b1 b2 : Byte) (s : State), y.toNat ≤ 1 →
    let c := if y = 1 ∧ s.cpu.flagC = true then 1 else 0
    SumResult (decodeOp (2#2 ++ y ++ z) b1 b2) s (s.source z).2 (s.source z).1 c ∧
    SumResult (decodeOp (3#2 ++ y ++ 6#3) b1 b2) s s b1 c

/-- SUB (y = 2), SBC (y = 3) and CP (y = 7) of a register, of the byte at HL and of an immediate byte; CP leaves A alone
(R257 to R262, R272 to R274). -/
def Obligations.SubSbcCp : Prop :=
  ∀ (y z : BitVec 3) (b1 b2 : Byte) (s : State), y = 2 ∨ y = 3 ∨ y = 7 →
    let c := if y = 3 ∧ s.cpu.flagC = true then 1 else 0
    DifferenceResult (decodeOp (2#2 ++ y ++ z) b1 b2) s (s.source z).2 (s.source z).1 c (y = 7) ∧
    DifferenceResult (decodeOp (3#2 ++ y ++ 6#3) b1 b2) s s b1 c (y = 7)

/-- AND (y = 4), XOR (y = 5) and OR (y = 6) of a register, of the byte at HL and of an immediate byte (R263 to R271). -/
def Obligations.Logic : Prop :=
  ∀ (z : BitVec 3) (b1 b2 : Byte) (s : State),
    ∀ row ∈ [((4 : BitVec 3), (fun a b => a && b), True), (5, (fun a b => a != b), False), (6, (fun a b => a || b), False)],
      LogicResult (decodeOp (2#2 ++ row.1 ++ z) b1 b2) s (s.source z).2 (s.source z).1 row.2.1 row.2.2 ∧
      LogicResult (decodeOp (3#2 ++ row.1 ++ 6#3) b1 b2) s s b1 row.2.1 row.2.2

/-- INC and DEC of a register and of the byte at HL: the value modulo 256, Z, N, H from the value before, C kept; at HL a
read M-cycle, then a write M-cycle (R275 to R278). -/
def Obligations.IncDec : Prop :=
  ∀ (y : BitVec 3) (b1 b2 : Byte) (s : State),
    ∀ row ∈ [((4 : BitVec 3), 1, False, 15), (5, 255, True, 0)],
      ∃ (t : State) (res : Byte), exec (decodeOp (0#2 ++ y ++ row.1) b1 b2) s = .next t ∧
        res.toNat = ((s.source y).1.toNat + row.2.1) % 256 ∧
        t.cpu.FlagsAre (res = 0) row.2.2.1 ((s.source y).1.toNat % 16 = row.2.2.2) (s.cpu.flagC = true) ∧
        (∀ r, reg8OfCode y = some r → t.bus = s.bus ∧ t.cpu = { s.cpu.setReg r res with f := t.cpu.f }) ∧
        (reg8OfCode y = none →
          t.bus = ((s.bus.advance (some s.cpu.hl)).cpuWrite s.cpu.hl res).advance (some s.cpu.hl) ∧
          t.cpu = { s.cpu with f := t.cpu.f })

/-- DAA on every A and flag combination: the adjustment by 0x60 and 0x06 modulo 256, Z of the result, N kept, H 0, and the
new carry (R279). -/
def Obligations.DaaMeaning : Prop :=
  ∀ s : State,
    let a := s.cpu.a.toNat
    let up := s.cpu.flagC = true ∨ a > 0x99
    let low := s.cpu.flagH = true ∨ a % 16 > 9
    ∃ t, exec .daa s = .next t ∧ t.bus = s.bus ∧ t.cpu = { s.cpu with a := t.cpu.a, f := t.cpu.f } ∧
      (s.cpu.flagN = false →
        (¬ up → ¬ low → t.cpu.a.toNat = a) ∧ (¬ up → low → t.cpu.a.toNat = (a + 0x06) % 256) ∧
        (up → ¬ low → t.cpu.a.toNat = (a + 0x60) % 256) ∧ (up → low → t.cpu.a.toNat = (a + 0x66) % 256) ∧
        t.cpu.FlagsAre (t.cpu.a = 0) False False up) ∧
      (s.cpu.flagN = true →
        (t.cpu.a.toNat : Int) =
          ((a : Int) - (if s.cpu.flagC then 0x60 else 0) - (if s.cpu.flagH then 0x06 else 0)) % 256 ∧
        t.cpu.FlagsAre (t.cpu.a = 0) True False (s.cpu.flagC = true))

/-- DAA makes binary ADD and SUB of two packed BCD bytes decimal ones, with the decimal carry or borrow in C
(R279, R253, R259). -/
def Obligations.DaaDecimal : Prop :=
  ∀ (x y : Nat) (s : State), x < 100 → y < 100 → s.cpu.a = bcd x →
    (∃ t u, exec (.addAN (bcd y)) s = .next t ∧ exec .daa t = .next u ∧
      u.cpu.a = bcd ((x + y) % 100) ∧ (u.cpu.flagC = true ↔ 100 ≤ x + y)) ∧
    (∃ t u, exec (.subN (bcd y)) s = .next t ∧ exec .daa t = .next u ∧
      u.cpu.a = bcd ((x + 100 - y) % 100) ∧ (u.cpu.flagC = true ↔ x < y))

/-- CPL inverts A and sets N and H; SCF sets C; CCF inverts C; both clear N and H and keep Z; nothing else changes
(R280, R281, R282). -/
def Obligations.ComplementAndCarry : Prop :=
  ∀ s : State,
    (∃ t, exec .cpl s = .next t ∧ t.bus = s.bus ∧ t.cpu = { s.cpu with a := t.cpu.a, f := t.cpu.f } ∧
      t.cpu.a.toNat = 255 - s.cpu.a.toNat ∧ t.cpu.FlagsAre (s.cpu.flagZ = true) True True (s.cpu.flagC = true)) ∧
    (∃ t, exec .scf s = .next t ∧ t.bus = s.bus ∧ t.cpu = { s.cpu with f := t.cpu.f } ∧
      t.cpu.FlagsAre (s.cpu.flagZ = true) False False True) ∧
    (∃ t, exec .ccf s = .next t ∧ t.bus = s.bus ∧ t.cpu = { s.cpu with f := t.cpu.f } ∧
      t.cpu.FlagsAre (s.cpu.flagZ = true) False False (s.cpu.flagC = false))

/-! ## 16-bit arithmetic -/

/-- `ADD HL,rr`: the sum modulo 2^16, Z kept, N 0, H out of bit 11 and C out of bit 15 of the operands before, one internal
M-cycle (R290). -/
def Obligations.AddHl : Prop :=
  ∀ (p : BitVec 2) (b1 b2 : Byte) (s : State),
    let hl := s.cpu.h.toNat * 256 + s.cpu.l.toNat
    let rr := (s.cpu.pair (pairOfCode p)).toNat
    ∃ t, exec (decodeOp (0#2 ++ p ++ 9#4) b1 b2) s = .next t ∧ t.bus = s.bus.advance none ∧
      t.cpu = { s.cpu with h := t.cpu.h, l := t.cpu.l, f := t.cpu.f } ∧
      t.cpu.h.toNat * 256 + t.cpu.l.toNat = (hl + rr) % 65536 ∧
      t.cpu.FlagsAre (s.cpu.flagZ = true) False (hl % 4096 + rr % 4096 > 0x0FFF) (hl + rr > 0xFFFF)

/-- `INC rr` and `DEC rr`: the pair modulo 2^16, no flag, one internal M-cycle with the old pair on the incrementer, no
other register (R291, R292). -/
def Obligations.IncDecPair : Prop :=
  ∀ (p : BitVec 2) (b1 b2 : Byte) (s : State),
    ∀ row ∈ [((3 : BitVec 4), 1), (11, 65535)],
      ∃ v : Word, v.toNat = ((s.cpu.pair (pairOfCode p)).toNat + row.2) % 65536 ∧
        exec (decodeOp (0#2 ++ p ++ row.1) b1 b2) s =
          .next { cpu :=
                    match pairOfCode p with
                    | .bc => { s.cpu with b := highByte v, c := lowByte v }
                    | .de => { s.cpu with d := highByte v, e := lowByte v }
                    | .hl => { s.cpu with h := highByte v, l := lowByte v }
                    | .sp => { s.cpu with sp := v }
                  bus := s.bus.advance (some (s.cpu.pair (pairOfCode p))) }

/-! ## Rotates, shifts and bits -/

/-- RLCA, RRCA, RLA and RRA: A, and C; Z, N and H are 0 even for a zero result (R300 to R303). -/
def Obligations.AccumulatorRotates : Prop :=
  ∀ s : State,
    ∀ row ∈ [((0 : BitVec 3), Instr.rlca), (1, .rrca), (2, .rla), (3, .rra)],
      ∃ t, exec row.2 s = .next t ∧ t.bus = s.bus ∧ t.cpu = { s.cpu with a := t.cpu.a, f := t.cpu.f } ∧
        t.cpu.a.toNat = rotated row.1 s.cpu.a.toNat s.cpu.flagC.toNat ∧
        t.cpu.FlagsAre False False False (rotatedOut row.1 s.cpu.a.toNat)

/-- The prefixed rotates and shifts, second bytes 0x00..0x3F, of a register and of the byte at HL: the result, Z of it, N
and H 0, C the bit shifted out (R305 to R320). -/
def Obligations.PrefixedRotates : Prop :=
  ∀ (y z : BitVec 3) (s : State),
    ∃ (t : State) (res : Byte), exec (decodeCb (0#2 ++ y ++ z)) s = .next t ∧
      res.toNat = rotated y (s.source z).1.toNat s.cpu.flagC.toNat ∧
      t.cpu.FlagsAre (res = 0) False False (rotatedOut y (s.source z).1.toNat) ∧
      (∀ r, reg8OfCode z = some r → t.bus = s.bus ∧ t.cpu = { s.cpu.setReg r res with f := t.cpu.f }) ∧
      (reg8OfCode z = none →
        t.bus = ((s.bus.advance (some s.cpu.hl)).cpuWrite s.cpu.hl res).advance (some s.cpu.hl) ∧
        t.cpu = { s.cpu with f := t.cpu.f })

/-- BIT b, second bytes 0x40..0x7F: Z is the inverted bit, N 0, H 1, C kept; the operand is not written (R321, R322). -/
def Obligations.BitTest : Prop :=
  ∀ (y z : BitVec 3) (s : State),
    ∃ t, exec (decodeCb (1#2 ++ y ++ z)) s = .next t ∧ t.bus = (s.source z).2.bus ∧
      t.cpu = { s.cpu with f := t.cpu.f } ∧
      t.cpu.FlagsAre ((s.source z).1.getLsbD y.toNat = false) False True (s.cpu.flagC = true)

/-- RES b (second bytes 0x80..0xBF) and SET b (0xC0..0xFF): that bit of the operand and no other, no flag; at HL a read and
then a write M-cycle (R323 to R326). -/
def Obligations.ResSet : Prop :=
  ∀ (y z : BitVec 3) (s : State),
    ∀ row ∈ [((2 : BitVec 2), false), (3, true)],
      ∃ res : Byte, (∀ j, j < 8 → res.getLsbD j = if j = y.toNat then row.2 else (s.source z).1.getLsbD j) ∧
        (∀ r, reg8OfCode z = some r →
          exec (decodeCb (row.1 ++ y ++ z)) s = .next { s with cpu := s.cpu.setReg r res }) ∧
        (reg8OfCode z = none →
          exec (decodeCb (row.1 ++ y ++ z)) s =
            .next { s with
              bus := ((s.bus.advance (some s.cpu.hl)).cpuWrite s.cpu.hl res).advance (some s.cpu.hl) })

/-- 0xCB followed by any byte decodes to the instruction which that byte selects in the prefixed map (R166, R304); the prefix,
executed as an instruction of its own, does what that instruction does (R365), and always completes. That the prefix is a
constructor of its own with a meaning, which the last two clauses are about, is the model's choice (log entry 17). -/
def Obligations.PrefixSelects : Prop :=
  ∀ (op2 : Byte) (rest : List Byte) (s : State),
    decode (0xCB :: op2 :: rest) = .ok (decodeCb op2, rest) ∧
    exec (.prefixCb op2) s = exec (decodeCb op2) s ∧
    ∃ t, exec (.prefixCb op2) s = .next t

/-! ## Control transfer -/

/-- JP nn, JP HL and JR e jump always; JP cc,nn and JR cc,e jump exactly when the flag condition holds. A jump other than
JP HL costs one internal M-cycle; relative targets are pc plus the signed byte modulo 2^16 (R330 to R334). -/
def Obligations.Jumps : Prop :=
  ∀ (s : State) (nn : Word) (e : Byte),
    let jumped (target : Word) (t : State) : Prop :=
      t = { cpu := { s.cpu with pc := target }, bus := s.bus.advance none }
    let rel : Word := BitVec.ofInt 16 (s.cpu.pc.toNat + e.toInt)
    exec .jpHl s = .next { s with cpu := { s.cpu with pc := joinBytes s.cpu.h s.cpu.l } } ∧
    (∃ t, exec (.jpNn nn) s = .next t ∧ jumped nn t) ∧
    (∃ t, exec (.jrE e) s = .next t ∧ jumped rel t) ∧
    (∀ row ∈ [(Instr.jpNzNn nn, Instr.jrNzE e, (7, false)), (.jpZNn nn, .jrZE e, (7, true)),
              (.jpNcNn nn, .jrNcE e, (4, false)), (.jpCNn nn, .jrCE e, (4, true))],
      (s.cpu.f.getLsbD row.2.2.1 = row.2.2.2 →
        (∃ t, exec row.1 s = .next t ∧ jumped nn t) ∧ (∃ t, exec row.2.1 s = .next t ∧ jumped rel t)) ∧
      (s.cpu.f.getLsbD row.2.2.1 ≠ row.2.2.2 → exec row.1 s = .next s ∧ exec row.2.1 s = .next s))

/-- CALL nn, CALL cc,nn exactly when its condition holds, and RST to 8 times its field y (R335, R336, R340). -/
def Obligations.CallRst : Prop :=
  ∀ (s : State) (nn : Word),
    (∃ t, exec (.callNn nn) s = .next t ∧ Called s t nn) ∧
    (∀ row ∈ [(Instr.callNzNn nn, (7, false)), (.callZNn nn, (7, true)), (.callNcNn nn, (4, false)), (.callCNn nn, (4, true))],
      (s.cpu.f.getLsbD row.2.1 = row.2.2 → ∃ t, exec row.1 s = .next t ∧ Called s t nn) ∧
      (s.cpu.f.getLsbD row.2.1 ≠ row.2.2 → exec row.1 s = .next s)) ∧
    (∀ (y : BitVec 3) (b1 b2 : Byte),
      ∃ t, exec (decodeOp (3#2 ++ y ++ 7#3) b1 b2) s = .next t ∧ Called s t (BitVec.ofNat 16 (8 * y.toNat)))

/-- RET; RETI, with IME set at once; RET cc, whose condition test is an M-cycle of its own, taken exactly when the
condition holds (R337, R338, R339). -/
def Obligations.Returns : Prop :=
  ∀ s : State,
    (∃ t, exec .ret s = .next t ∧ Returned s t s.bus) ∧
    (∃ t, exec .reti s = .next { t with cpu := { t.cpu with ime := true, eiDelay := 0 } } ∧ Returned s t s.bus) ∧
    (∀ row ∈ [(Instr.retNz, (7, false)), (.retZ, (7, true)), (.retNc, (4, false)), (.retC, (4, true))],
      (s.cpu.f.getLsbD row.2.1 = row.2.2 → ∃ t, exec row.1 s = .next t ∧ Returned s t (s.bus.advance none)) ∧
      (s.cpu.f.getLsbD row.2.1 ≠ row.2.2 → exec row.1 s = .next { s with bus := s.bus.advance none }))

/-- RET after CALL on a stack in HRAM goes on at the instruction after the CALL, SP and every other register as before
(R335, R337). -/
def Obligations.CallReturn : Prop :=
  ∀ (s : State) (nn : Word), s.bus.mem.wf = true → s.Valid → InHram (s.cpu.sp - 1) → InHram (s.cpu.sp - 2) →
    ∃ t u, exec (.callNn nn) s = .next t ∧ t.cpu.pc = nn ∧ exec .ret t = .next u ∧ u.cpu = s.cpu

/-! ## System -/

/-- NOP, DI, EI and HALT: no M-cycle after the fetch. HALT with nothing pending halts; with an enabled request pending it
sets the halt bug if IME is 0 and does nothing if IME is 1 (R360, R361, R363, R364). -/
def Obligations.SystemInstructions : Prop :=
  ∀ s : State,
    exec .nop s = .next s ∧
    exec .di s = .next { s with cpu := { s.cpu with ime := false, eiDelay := 0 } } ∧
    (s.cpu.ime = false → s.cpu.eiDelay = 0 → exec .ei s = .next { s with cpu := { s.cpu with eiDelay := 2 } }) ∧
    (s.cpu.ime = true ∨ s.cpu.eiDelay ≠ 0 → exec .ei s = .next s) ∧
    ((∀ k, k < 5 → s.bus.irq.ie.getLsbD k = false ∨ s.bus.irq.iflag.getLsbD k = false) →
      exec .halt s = .next { s with cpu := { s.cpu with run := .halted } }) ∧
    ((∃ k, k < 5 ∧ s.bus.irq.ie.getLsbD k = true ∧ s.bus.irq.iflag.getLsbD k = true) →
      (s.cpu.ime = false → exec .halt s = .next { s with cpu := { s.cpu with haltBug := true } }) ∧
      (s.cpu.ime = true → exec .halt s = .next s))

/-- STOP skips its second byte without a bus cycle, clears the divider as a DIV write does (R443), and stops; no memory byte,
no other Cpu register and no time (R362). That the DIV write's effects include IF bit 3 at the end of a serial transfer,
where R362 says that IF is not changed, is the model's choice (log entry 28). -/
def Obligations.StopMeaning : Prop :=
  ∀ s : State, ∃ t, exec .stop s = .next t ∧
    t.cpu = { s.cpu with pc := s.cpu.pc + 1, run := .stopped } ∧
    t.bus.timer.div16 = 0 ∧ t.bus = s.bus.ioWrite 0xFF04 0 ∧ t.bus.mem = s.bus.mem ∧ t.bus.cycles = s.bus.cycles

/-! ## Memory, devices, cartridge -/

/-- A Cpu write stores to at most one byte, and a write to work RAM, its echo or HRAM that the DMA does not lock out is read
back by the Cpu, the echo being the same storage (R87, R101, R102). -/
def Obligations.CpuStoreLoad : Prop :=
  ∀ (b : Bus) (a : Word) (v : Byte), b.mem.wf = true →
    (b.cpuWrite a v).mem.wf = true ∧
    (∀ k, b.storeKey a ≠ some k → (b.cpuWrite a v).mem.read k = b.mem.read k) ∧
    (b.dmaBlocks a = false → region a = .wram ∨ region a = .echo ∨ region a = .hram →
      (b.cpuWrite a v).cpuRead a = v) ∧
    (b.dmaBlocks a = false → region a = .echo → (b.cpuWrite a v).cpuRead (a - 0x2000) = v)

/-- While the DMA locks the Cpu out, every read below 0xFF00 gives OPEN_BUS and every write there is ignored, instruction
fetch included (R89). From 0xFF00 on a read, and a write but at 0xFF46, do what they do without a transfer and leave the
transfer alone; a write at 0xFF46 starts a new one, blocked from its start if the Cpu was (R100, R485, R481). -/
def Obligations.DmaLockout : Prop :=
  ∀ (b : Bus) (a : Word) (v : Byte),
    (b.dma.st.blocksCpu = true ↔
      (∃ src i, b.dma.st = .active src i) ∨ (∃ src n, b.dma.st = .starting src n true)) ∧
    (b.dma.st.blocksCpu = true → a.toNat < 0xFF00 → b.cpuRead a = b.params.openBus ∧ b.cpuWrite a v = b) ∧
    (let idle (x : Bus) : Bus := { x with dma := { x.dma with st := .idle } }
     0xFF00 ≤ a.toNat →
      b.cpuRead a = (idle b).cpuRead a ∧
      (a ≠ 0xFF46 → (b.cpuWrite a v).dma = b.dma ∧ idle (b.cpuWrite a v) = (idle b).cpuWrite a v)) ∧
    b.cpuWrite 0xFF46 v =
      { b with dma := { reg := v, st := .starting v (b.params.dmaStartup + 1) b.dma.st.blocksCpu } }

/-- A transfer from work RAM that has started copies one byte an M-cycle: after 160 M-cycles without a Cpu access OAM holds
the 160 source bytes, the DMA is idle, and no byte outside OAM has changed (R480, R483, R484). -/
def Obligations.DmaCopies : Prop :=
  ∀ (b : Bus) (src : Byte), b.mem.wf = true → b.dma.st = .active src 0 → 0xC0 ≤ src.toNat → src.toNat ≤ 0xDF →
    (Bus.idle 160 b).dma.st = .idle ∧
    (∀ i, i < 160 → (Bus.idle 160 b).mem.read (0xFE00 + i) = b.mem.read (src.toNat * 256 + i)) ∧
    (∀ k, ¬ IsOamKey k → (Bus.idle 160 b).mem.read k = b.mem.read k)

/-- The reload window: in the M-cycle after an overflow a TIMA write cancels the reload, a TMA write is what will be loaded;
the reload sets IF bit 2; in the M-cycle after the reload a TIMA write is ignored and a TMA write reaches TIMA too
(R442, R444, R445). -/
def Obligations.TimerWindow : Prop :=
  ∀ (b : Bus) (v : Byte),
    (b.timer.tstate = .overflowed →
      b.timerReload.timer = { b.timer with tima := b.timer.tma, tstate := .reloaded } ∧
      b.timerReload.irq.iflag.getLsbD 2 = true ∧
      (let w := b.cpuWrite 0xFF05 v
       w.timer = { b.timer with tima := v, tstate := .running } ∧ w.timerReload = w) ∧
      (let w := b.cpuWrite 0xFF06 v
       w.timer = { b.timer with tma := v } ∧ w.timerReload.timer.tima = v)) ∧
    (b.timer.tstate = .reloaded →
      b.cpuWrite 0xFF05 v = b ∧
      (b.cpuWrite 0xFF06 v).timer = { b.timer with tma := v, tima := v } ∧
      b.timerReload.timer = { b.timer with tstate := .running }) ∧
    (b.timer.tstate = .running →
      (b.cpuWrite 0xFF05 v).timer = { b.timer with tima := v } ∧
      (b.cpuWrite 0xFF06 v).timer = { b.timer with tma := v } ∧ b.timerReload = b)

/-- With TAC = 0x05 four M-cycles count exactly once, at every phase of the divider, and the divider moves by 16; a TIMA of
0xFF overflows to 0 within them (R441, R442; the scenario of 95_test_vectors.md L1-5). -/
def Obligations.TimerRate : Prop :=
  ∀ b : Bus, b.timer.tac = 0b101 → b.timer.tstate = .running →
    let b' := b.timerMCycle.timerMCycle.timerMCycle.timerMCycle
    b'.timer.div16.toNat = (b.timer.div16.toNat + 16) % 65536 ∧
    (b.timer.tima.toNat < 0xFF → b'.timer.tima.toNat = b.timer.tima.toNat + 1 ∧ b'.timer.tstate = .running) ∧
    (b.timer.tima = 0xFF → b.timer.tma = 0x00 → b'.timer.tima = 0x00)

/-- While the LCD is on a dot moves the PPU one place on in a frame of 154 lines of 456 dots, and IF bit 0 is set exactly at
line 144 dot 0; while it is off nothing moves (R500, R501, R511). -/
def Obligations.PpuFrame : Prop :=
  ∀ b : Bus, b.ppu.dot ≤ 455 → b.ppu.ly ≤ 153 →
    (b.ppu.lcdOn = true →
      b.ppuDot.ppu.position = (b.ppu.position + 1) % 70224 ∧ b.ppuDot.ppu.dot ≤ 455 ∧ b.ppuDot.ppu.ly ≤ 153 ∧
      b.ppuDot.irq.iflag.getLsbD 0 = (b.irq.iflag.getLsbD 0 || decide (b.ppuDot.ppu.position = 144 * 456)) ∧
      (b.ppuDot.ppu.mode = .vblank ↔ 144 ≤ b.ppuDot.ppu.ly)) ∧
    (b.ppu.lcdOn = false → b.ppuDot = b)

/-- The STAT line: a request (IF bit 1) exactly on a rising edge of the OR of the selected conditions, no other request; a
STAT write makes the same test; turning the LCD off puts the PPU at line 0 dot 0 mode 0 with the line low
(R513, R514, R515, R509). -/
def Obligations.StatLine : Prop :=
  ∀ (b : Bus) (v : Byte),
    (let line := b.ppu.lcdOn = true ∧
        ((b.ppu.statSel.getLsbD 3 = true ∧ b.ppu.lyRead b.params.line153LyQuirk = b.ppu.lyc) ∨
         (b.ppu.statSel.getLsbD 2 = true ∧ b.ppu.mode = .oamScan) ∨
         (b.ppu.statSel.getLsbD 1 = true ∧ b.ppu.mode = .vblank) ∨
         (b.ppu.statSel.getLsbD 0 = true ∧ b.ppu.mode = .hblank) ∨
         (b.params.vblankMode2Stat = true ∧ b.ppu.statSel.getLsbD 2 = true ∧ b.ppu.ly = 144 ∧ b.ppu.dot = 0))
     (b.updateStatLine.ppu.statLine = true ↔ line) ∧
     (b.updateStatLine.irq.iflag.getLsbD 1 = true ↔
       b.irq.iflag.getLsbD 1 = true ∨ (line ∧ b.ppu.statLine = false)) ∧
     (∀ j, j ≠ 1 → b.updateStatLine.irq.iflag.getLsbD j = b.irq.iflag.getLsbD j)) ∧
    b.cpuWrite 0xFF41 v = ({ b with ppu := { b.ppu with statSel := v.extractLsb' 3 4 } } : Bus).updateStatLine ∧
    (b.ppu.lcdOn = true → v.toNat < 0x80 →
      b.cpuWrite 0xFF40 v =
        { b with ppu := { b.ppu with lcdc := v, ly := 0, dot := 0, mode := .hblank, statLine := false } })

/-- P1 reads its select bits and the input lines, a line being 0 when a button of a selected group on it is pressed; the
line sample requests the joypad interrupt exactly when some line falls (R460, R461). -/
def Obligations.JoypadLines : Prop :=
  ∀ b : Bus,
    (b.cpuRead 0xFF00).extractLsb' 4 4 = 3#2 ++ b.joypad.p1sel ∧
    (let x := b.joypad.buttons
     ∀ row ∈ [(0, x.right, x.a), (1, x.left, x.b), (2, x.up, x.select), (3, x.down, x.start)],
       ((b.cpuRead 0xFF00).getLsbD row.1 = false ↔
         (b.joypad.p1sel.getLsbD 0 = false ∧ row.2.1 = true) ∨ (b.joypad.p1sel.getLsbD 1 = false ∧ row.2.2 = true))) ∧
    (b.joypadSample.irq.iflag.getLsbD 4 = true ↔
      b.irq.iflag.getLsbD 4 = true ∨
        ∃ j, j < 4 ∧ b.joypad.linesPrev.getLsbD j = true ∧ b.joypad.lines.getLsbD j = false) ∧
    b.joypadSample.joypad.linesPrev = b.joypad.lines

/-- An internal-clock transfer ends after eight edges with SB 0xFF, the busy bit 0 and the Serial request; before the eighth
the busy bit stays as it was (R464, R465). -/
def Obligations.SerialTransfer : Prop :=
  ∀ b : Bus, b.serial.bits = 8 →
    (Bus.shiftEdges 8 b).serial = { b.serial with sb := 0xFF, start := false, bits := 0 } ∧
    (Bus.shiftEdges 8 b).irq.iflag.getLsbD 3 = true ∧
    (∀ n, n < 8 → (Bus.shiftEdges n b).serial.start = b.serial.start ∧ (Bus.shiftEdges n b).serial.bits = 8 - n)

/-- Every ROM-range address reads inside the image; the bank registers of MBC1, MBC2 and MBC3 are never 0 after a control
write; MBC5's may be; a control write never changes memory (R110, R122, R124, R125, R128). -/
def Obligations.CartridgeBanks : Prop :=
  (∀ (c : Cart) (a : Word), 1 ≤ c.romBanks → c.romOffset a < c.romBanks * 0x4000) ∧
  (∀ (r : Mbc1) (a : Word) (v : Byte), r.bank1 ≠ 0 → (r.controlWrite a v).bank1 ≠ 0) ∧
  (∀ (r : Mbc2) (a : Word) (v : Byte), r.romBank ≠ 0 → (r.controlWrite a v).romBank ≠ 0) ∧
  (∀ (r : Mbc3) (a : Word) (v : Byte), r.romBank ≠ 0 → (r.controlWrite a v).romBank ≠ 0) ∧
  (∀ (r : Mbc5) (a : Word) (v : Byte), 0x2000 ≤ a.toNat → a.toNat ≤ 0x2FFF →
    (r.controlWrite a v).romBank.toNat = r.romBank.toNat / 256 * 256 + v.toNat) ∧
  (∀ (b : Bus) (a : Word) (v : Byte), a.toNat ≤ 0x7FFF → (b.cpuWrite a v).mem = b.mem)

/-! ## Loading and reset -/

/-- An image is rejected exactly for the reasons of R119, whose list is the spec's own reading (92_eei_decisions.md D27). -/
def Obligations.LoadChecks : Prop :=
  ∀ args : LoadArgs,
    let h := args.image.header
    (∃ e, args.load = .error e) ↔
      args.image.length < 0x150 ∨ 8 < h.romCode.toNat ∨ args.image.length ≠ 0x8000 * 2 ^ h.romCode.toNat ∨
      mbcOfType h.type = none ∨ (∃ k, mbcOfType h.type = some k ∧ k ∉ args.supported) ∨
      (mbcOfType h.type ≠ some .mbc2 ∧ 5 < h.ramCode.toNat) ∨ (h.type = 0x00 ∧ h.romCode ≠ 0)

/-- Without a boot ROM every accepted image starts with the values of R602, with nothing pending or in flight (R606): the
PPU at the phase given, in the mode of that phase (R604), every cartridge register at its reset value, the boot ROM
unmapped, the frame buffer all shade 0. OBP0 and OBP1 are what loading is given (R52); the first contents of the memories,
which loading is given too (R605), are not stated here. -/
def Obligations.ResetValues : Prop :=
  ∀ (args : LoadArgs) (s : State), args.load = .ok s → args.params.bootRom = none →
    s.cpu = { a := 0x01, f := 0xB0, b := 0x00, c := 0x13, d := 0x00, e := 0xD8, h := 0x01, l := 0x4D
              sp := 0xFFFE, pc := 0x0100, ime := false, eiDelay := 0, run := .running, haltBug := false
              opAddr := s.cpu.opAddr } ∧
    s.bus.irq = { ie := 0x00, iflag := 0b00001 } ∧ s.bus.pending = 0 ∧
    s.bus.timer = { div16 := 0xABCC, tima := 0, tma := 0, tac := 0, tstate := .running } ∧
    s.bus.serial = { sb := 0, start := false, internalClock := false, bits := 0 } ∧
    s.bus.dma = { reg := 0xFF, st := .idle } ∧ s.bus.bootMapped = false ∧
    s.bus.joypad.p1sel = 0 ∧ s.bus.joypad.linesPrev = 0xF ∧ s.bus.joypad.lines = 0xF ∧
    s.bus.joypad.buttons =
      { right := false, left := false, up := false, down := false, a := false, b := false, select := false, start := false } ∧
    (let p := s.bus.ppu
     p.lcdc = 0x91 ∧ p.statSel = 0 ∧ p.bgp = 0xFC ∧ p.scy = 0 ∧ p.scx = 0 ∧ p.lyc = 0 ∧ p.wy = 0 ∧ p.wx = 0 ∧
     p.obp0 = args.obp0 ∧ p.obp1 = args.obp1 ∧ p.ly = args.phaseLy ∧ p.dot = args.phaseDot ∧
     p.mode = (if 144 ≤ p.ly then .vblank else if p.dot < 80 then .oamScan else if p.dot < 252 then .transfer else .hblank) ∧
     p.statLine = false ∧
     p.l3 = 172 ∧ p.wline = 0 ∧ p.firstLine = false ∧ p.sel = [] ∧ ∀ k, p.fb.read k = 0) ∧
    (match s.bus.cart.scheme with
     | .romOnly => True
     | .mbc1 r => r = { ramEn := false, bank1 := 1, bank2 := 0, mode := false }
     | .mbc2 r => r = { ramEn := false, romBank := 1 }
     | .mbc3 r => r = { ramEn := false, romBank := 1, ramSel := 0, latchPrev := 0xFF, hasClock := r.hasClock }
     | .mbc5 r => r = { ramEn := false, romBank := 1, ramBank := 0 })
end

