-- ==== Sys2Proof/Laws/Memory.lean ====
section
/-! SUPPORT. The laws of the sorted lists that hold memory and the frame buffer: a read after a write, and the canonical
form (log entry 1). -/

namespace Sys2Proof.Machine

variable {α : Type} [DecidableEq α] (d : α)

theorem sparseWf_mono {lo lo' : Nat} (h : lo' ≤ lo) (m : List (Nat × α)) (w : sparseWf d lo m = true) :
    sparseWf d lo' m = true := by
  cases m with
  | nil => rfl
  | cons e rest =>
    simp only [sparseWf, Bool.and_eq_true, decide_eq_true_eq] at w ⊢
    exact ⟨⟨by omega, w.1.2⟩, w.2⟩

/-- A key below every listed one reads as unlisted. -/
theorem sparseRead_below {lo k : Nat} (m : List (Nat × α)) (w : sparseWf d lo m = true) (h : k < lo) :
    sparseRead d m k = d := by
  cases m with
  | nil => rfl
  | cons e rest =>
    simp only [sparseWf, Bool.and_eq_true, decide_eq_true_eq] at w
    simp only [sparseRead]
    rw [if_neg (by omega), if_pos (by omega)]

/-- A write keeps the canonical form. -/
theorem sparseWrite_wf {lo k : Nat} (v : α) (m : List (Nat × α)) (w : sparseWf d lo m = true) (h : lo ≤ k) :
    sparseWf d lo (sparseWrite d m k v) = true := by
  induction m generalizing lo with
  | nil =>
    simp only [sparseWrite]
    split
    · rfl
    · simp_all [sparseWf]
  | cons e rest ih =>
    obtain ⟨j, x⟩ := e
    simp only [sparseWf, Bool.and_eq_true, decide_eq_true_eq] at w
    simp only [sparseWrite]
    split
    · split
      · simp_all [sparseWf]
      · simp only [sparseWf, Bool.and_eq_true, decide_eq_true_eq]
        exact ⟨⟨h, ‹_›⟩, ⟨by omega, w.1.2⟩, w.2⟩
    · split
      · split
        · exact sparseWf_mono d (by omega) rest w.2
        · subst_vars; simp_all [sparseWf]
      · simp only [sparseWf, Bool.and_eq_true, decide_eq_true_eq]
        exact ⟨w.1, ih w.2 (by omega)⟩

/-- A read after a write gives the value written at its key and leaves every other key alone. -/
theorem sparseRead_write {lo k : Nat} (v : α) (m : List (Nat × α)) (w : sparseWf d lo m = true) (j : Nat) :
    sparseRead d (sparseWrite d m k v) j = if j = k then v else sparseRead d m j := by
  induction m generalizing lo with
  | nil =>
    simp only [sparseWrite]
    split <;> simp_all [sparseRead]
  | cons e rest ih =>
    obtain ⟨i, x⟩ := e
    simp only [sparseWf, Bool.and_eq_true, decide_eq_true_eq] at w
    have hi := ih w.2
    have hb := fun n (hn : n < i + 1) => sparseRead_below d rest w.2 hn
    simp only [sparseWrite]
    split
    · split
      · simp only [sparseRead]
        by_cases hjk : j = k
        · subst hjk; rw [if_neg (by omega), if_pos ‹_›, if_pos rfl]; exact (‹v = d›).symm
        · rw [if_neg hjk]
      · simp only [sparseRead]
        by_cases hjk : j = k
        · rw [if_pos hjk, if_pos hjk]
        · rw [if_neg hjk, if_neg hjk]
          split
          · rw [if_neg (by omega), if_pos (by omega)]
          · rfl
    · split
      · obtain rfl : k = i := ‹_›
        split
        · by_cases hjk : j = k
          · subst hjk; rw [if_pos rfl, hb j (by omega)]; exact (‹v = d›).symm
          · rw [if_neg hjk]; simp only [sparseRead]; rw [if_neg hjk]
            split
            · exact hb j (by omega)
            · rfl
        · simp only [sparseRead]
          by_cases hjk : j = k <;> simp [hjk]
      · simp only [sparseRead]
        by_cases hji : j = i
        · rw [if_pos hji, if_pos hji, if_neg (by omega)]
        · rw [if_neg hji, if_neg hji]
          split
          · rw [if_neg (by omega)]
          · exact hi

theorem Memory.write_wf (m : Memory) (k : Nat) (v : Byte) (w : m.wf = true) : (m.write k v).wf = true :=
  sparseWrite_wf _ v m w (Nat.zero_le k)

theorem Memory.read_write (m : Memory) (k : Nat) (v : Byte) (w : m.wf = true) (j : Nat) :
    (m.write k v).read j = if j = k then v else m.read j :=
  sparseRead_write _ v m w j

theorem Memory.read_write_same (m : Memory) (k : Nat) (v : Byte) (w : m.wf = true) : (m.write k v).read k = v := by
  simp [Memory.read_write m k v w]

theorem Memory.read_write_other (m : Memory) (k : Nat) (v : Byte) (w : m.wf = true) {j : Nat} (h : j ≠ k) :
    (m.write k v).read j = m.read j := by
  simp [Memory.read_write m k v w, h]

theorem Frame.write_wf (f : Frame) (k : Nat) (v : Shade) (w : f.wf = true) : (f.write k v).wf = true :=
  sparseWrite_wf _ v f w (Nat.zero_le k)

theorem Frame.read_write (f : Frame) (k : Nat) (v : Shade) (w : f.wf = true) (j : Nat) :
    (f.write k v).read j = if j = k then v else f.read j :=
  sparseRead_write _ v f w j

/-- Nothing is listed after reset, and the empty list is in the form. -/
theorem reset_mem_wf : Memory.wf State.reset.bus.mem = true := rfl

end Sys2Proof.Machine
end

