-- ==== Sys2Proof/Laws/Bus.lean ====
section
/-! SUPPORT. What the device part of one M-cycle (20_memory.md R85) leaves alone, stage by stage and then as a whole: the
later proofs cite the lemmas about `Bus.advance` and never unfold a device. -/

namespace Sys2Proof.Machine

variable (b : Bus)


/-! `Bus.request`. -/

@[simp] theorem Bus.request_params (n : Nat) : (b.request n).params = b.params := rfl
@[simp] theorem Bus.request_cart (n : Nat) : (b.request n).cart = b.cart := rfl
@[simp] theorem Bus.request_bootMapped (n : Nat) : (b.request n).bootMapped = b.bootMapped := rfl
@[simp] theorem Bus.request_cycles (n : Nat) : (b.request n).cycles = b.cycles := rfl
@[simp] theorem Bus.request_mem (n : Nat) : (b.request n).mem = b.mem := rfl
@[simp] theorem Bus.request_timer (n : Nat) : (b.request n).timer = b.timer := rfl
@[simp] theorem Bus.request_serial (n : Nat) : (b.request n).serial = b.serial := rfl
@[simp] theorem Bus.request_joypad (n : Nat) : (b.request n).joypad = b.joypad := rfl
@[simp] theorem Bus.request_ppu (n : Nat) : (b.request n).ppu = b.ppu := rfl
@[simp] theorem Bus.request_dma (n : Nat) : (b.request n).dma = b.dma := rfl
@[simp] theorem Bus.request_events (n : Nat) : (b.request n).events = b.events := rfl
@[simp] theorem Bus.request_irq_ie (n : Nat) : (b.request n).irq.ie = b.irq.ie := rfl

/-! `Bus.emit`. -/

@[simp] theorem Bus.emit_params (e : HostEvent) : (b.emit e).params = b.params := rfl
@[simp] theorem Bus.emit_cart (e : HostEvent) : (b.emit e).cart = b.cart := rfl
@[simp] theorem Bus.emit_bootMapped (e : HostEvent) : (b.emit e).bootMapped = b.bootMapped := rfl
@[simp] theorem Bus.emit_cycles (e : HostEvent) : (b.emit e).cycles = b.cycles := rfl
@[simp] theorem Bus.emit_mem (e : HostEvent) : (b.emit e).mem = b.mem := rfl
@[simp] theorem Bus.emit_timer (e : HostEvent) : (b.emit e).timer = b.timer := rfl
@[simp] theorem Bus.emit_serial (e : HostEvent) : (b.emit e).serial = b.serial := rfl
@[simp] theorem Bus.emit_joypad (e : HostEvent) : (b.emit e).joypad = b.joypad := rfl
@[simp] theorem Bus.emit_ppu (e : HostEvent) : (b.emit e).ppu = b.ppu := rfl
@[simp] theorem Bus.emit_dma (e : HostEvent) : (b.emit e).dma = b.dma := rfl
@[simp] theorem Bus.emit_irq (e : HostEvent) : (b.emit e).irq = b.irq := rfl

/-! `Bus.serialShiftEdge` (60_exceptions.md R465). -/

@[simp] theorem Bus.serialShiftEdge_params : b.serialShiftEdge.params = b.params := by
  unfold Bus.serialShiftEdge; split; · rfl
  · dsimp only; split <;> rfl

@[simp] theorem Bus.serialShiftEdge_cart : b.serialShiftEdge.cart = b.cart := by
  unfold Bus.serialShiftEdge; split; · rfl
  · dsimp only; split <;> rfl

@[simp] theorem Bus.serialShiftEdge_bootMapped : b.serialShiftEdge.bootMapped = b.bootMapped := by
  unfold Bus.serialShiftEdge; split; · rfl
  · dsimp only; split <;> rfl

@[simp] theorem Bus.serialShiftEdge_cycles : b.serialShiftEdge.cycles = b.cycles := by
  unfold Bus.serialShiftEdge; split; · rfl
  · dsimp only; split <;> rfl

@[simp] theorem Bus.serialShiftEdge_mem : b.serialShiftEdge.mem = b.mem := by
  unfold Bus.serialShiftEdge; split; · rfl
  · dsimp only; split <;> rfl

@[simp] theorem Bus.serialShiftEdge_timer : b.serialShiftEdge.timer = b.timer := by
  unfold Bus.serialShiftEdge; split; · rfl
  · dsimp only; split <;> rfl

@[simp] theorem Bus.serialShiftEdge_joypad : b.serialShiftEdge.joypad = b.joypad := by
  unfold Bus.serialShiftEdge; split; · rfl
  · dsimp only; split <;> rfl

@[simp] theorem Bus.serialShiftEdge_ppu : b.serialShiftEdge.ppu = b.ppu := by
  unfold Bus.serialShiftEdge; split; · rfl
  · dsimp only; split <;> rfl

@[simp] theorem Bus.serialShiftEdge_dma : b.serialShiftEdge.dma = b.dma := by
  unfold Bus.serialShiftEdge; split; · rfl
  · dsimp only; split <;> rfl

@[simp] theorem Bus.serialShiftEdge_irq_ie : b.serialShiftEdge.irq.ie = b.irq.ie := by
  unfold Bus.serialShiftEdge; split; · rfl
  · dsimp only; split <;> rfl

/-! `Bus.setDivider` (R441, R447, R465). -/

@[simp] theorem Bus.setDivider_params (d : Word) : (b.setDivider d).params = b.params := by
  unfold Bus.setDivider; dsimp only; split <;> split <;> simp [Bus.divApuTick]

@[simp] theorem Bus.setDivider_cart (d : Word) : (b.setDivider d).cart = b.cart := by
  unfold Bus.setDivider; dsimp only; split <;> split <;> simp [Bus.divApuTick]

@[simp] theorem Bus.setDivider_bootMapped (d : Word) : (b.setDivider d).bootMapped = b.bootMapped := by
  unfold Bus.setDivider; dsimp only; split <;> split <;> simp [Bus.divApuTick]

@[simp] theorem Bus.setDivider_cycles (d : Word) : (b.setDivider d).cycles = b.cycles := by
  unfold Bus.setDivider; dsimp only; split <;> split <;> simp [Bus.divApuTick]

@[simp] theorem Bus.setDivider_mem (d : Word) : (b.setDivider d).mem = b.mem := by
  unfold Bus.setDivider; dsimp only; split <;> split <;> simp [Bus.divApuTick]

@[simp] theorem Bus.setDivider_joypad (d : Word) : (b.setDivider d).joypad = b.joypad := by
  unfold Bus.setDivider; dsimp only; split <;> split <;> simp [Bus.divApuTick]

@[simp] theorem Bus.setDivider_ppu (d : Word) : (b.setDivider d).ppu = b.ppu := by
  unfold Bus.setDivider; dsimp only; split <;> split <;> simp [Bus.divApuTick]

@[simp] theorem Bus.setDivider_dma (d : Word) : (b.setDivider d).dma = b.dma := by
  unfold Bus.setDivider; dsimp only; split <;> split <;> simp [Bus.divApuTick]

@[simp] theorem Bus.setDivider_irq_ie (d : Word) : (b.setDivider d).irq.ie = b.irq.ie := by
  unfold Bus.setDivider; dsimp only; split <;> split <;> simp [Bus.divApuTick]

/-! `Bus.timerReload` (R442). -/

@[simp] theorem Bus.timerReload_params : b.timerReload.params = b.params := by
  unfold Bus.timerReload; split <;> rfl

@[simp] theorem Bus.timerReload_cart : b.timerReload.cart = b.cart := by
  unfold Bus.timerReload; split <;> rfl

@[simp] theorem Bus.timerReload_bootMapped : b.timerReload.bootMapped = b.bootMapped := by
  unfold Bus.timerReload; split <;> rfl

@[simp] theorem Bus.timerReload_cycles : b.timerReload.cycles = b.cycles := by
  unfold Bus.timerReload; split <;> rfl

@[simp] theorem Bus.timerReload_mem : b.timerReload.mem = b.mem := by
  unfold Bus.timerReload; split <;> rfl

@[simp] theorem Bus.timerReload_joypad : b.timerReload.joypad = b.joypad := by
  unfold Bus.timerReload; split <;> rfl

@[simp] theorem Bus.timerReload_ppu : b.timerReload.ppu = b.ppu := by
  unfold Bus.timerReload; split <;> rfl

@[simp] theorem Bus.timerReload_dma : b.timerReload.dma = b.dma := by
  unfold Bus.timerReload; split <;> rfl

@[simp] theorem Bus.timerReload_serial : b.timerReload.serial = b.serial := by
  unfold Bus.timerReload; split <;> rfl

@[simp] theorem Bus.timerReload_irq_ie : b.timerReload.irq.ie = b.irq.ie := by
  unfold Bus.timerReload; split <;> rfl

/-! `Bus.timerTCycle` (R442). -/

@[simp] theorem Bus.timerTCycle_params : b.timerTCycle.params = b.params := by
  simp [Bus.timerTCycle]

@[simp] theorem Bus.timerTCycle_cart : b.timerTCycle.cart = b.cart := by
  simp [Bus.timerTCycle]

@[simp] theorem Bus.timerTCycle_bootMapped : b.timerTCycle.bootMapped = b.bootMapped := by
  simp [Bus.timerTCycle]

@[simp] theorem Bus.timerTCycle_cycles : b.timerTCycle.cycles = b.cycles := by
  simp [Bus.timerTCycle]

@[simp] theorem Bus.timerTCycle_mem : b.timerTCycle.mem = b.mem := by
  simp [Bus.timerTCycle]

@[simp] theorem Bus.timerTCycle_joypad : b.timerTCycle.joypad = b.joypad := by
  simp [Bus.timerTCycle]

@[simp] theorem Bus.timerTCycle_ppu : b.timerTCycle.ppu = b.ppu := by
  simp [Bus.timerTCycle]

@[simp] theorem Bus.timerTCycle_dma : b.timerTCycle.dma = b.dma := by
  simp [Bus.timerTCycle]

@[simp] theorem Bus.timerTCycle_irq_ie : b.timerTCycle.irq.ie = b.irq.ie := by
  simp [Bus.timerTCycle]

/-! `Bus.timerMCycle` (R442). -/

@[simp] theorem Bus.timerMCycle_params : b.timerMCycle.params = b.params := by
  simp [Bus.timerMCycle]

@[simp] theorem Bus.timerMCycle_cart : b.timerMCycle.cart = b.cart := by
  simp [Bus.timerMCycle]

@[simp] theorem Bus.timerMCycle_bootMapped : b.timerMCycle.bootMapped = b.bootMapped := by
  simp [Bus.timerMCycle]

@[simp] theorem Bus.timerMCycle_cycles : b.timerMCycle.cycles = b.cycles := by
  simp [Bus.timerMCycle]

@[simp] theorem Bus.timerMCycle_mem : b.timerMCycle.mem = b.mem := by
  simp [Bus.timerMCycle]

@[simp] theorem Bus.timerMCycle_joypad : b.timerMCycle.joypad = b.joypad := by
  simp [Bus.timerMCycle]

@[simp] theorem Bus.timerMCycle_ppu : b.timerMCycle.ppu = b.ppu := by
  simp [Bus.timerMCycle]

@[simp] theorem Bus.timerMCycle_dma : b.timerMCycle.dma = b.dma := by
  simp [Bus.timerMCycle]

@[simp] theorem Bus.timerMCycle_irq_ie : b.timerMCycle.irq.ie = b.irq.ie := by
  simp [Bus.timerMCycle]

/-! `Bus.updateStatLine` (R513). -/

@[simp] theorem Bus.updateStatLine_params : b.updateStatLine.params = b.params := by
  unfold Bus.updateStatLine; dsimp only; split <;> rfl

@[simp] theorem Bus.updateStatLine_cart : b.updateStatLine.cart = b.cart := by
  unfold Bus.updateStatLine; dsimp only; split <;> rfl

@[simp] theorem Bus.updateStatLine_bootMapped : b.updateStatLine.bootMapped = b.bootMapped := by
  unfold Bus.updateStatLine; dsimp only; split <;> rfl

@[simp] theorem Bus.updateStatLine_cycles : b.updateStatLine.cycles = b.cycles := by
  unfold Bus.updateStatLine; dsimp only; split <;> rfl

@[simp] theorem Bus.updateStatLine_mem : b.updateStatLine.mem = b.mem := by
  unfold Bus.updateStatLine; dsimp only; split <;> rfl

@[simp] theorem Bus.updateStatLine_joypad : b.updateStatLine.joypad = b.joypad := by
  unfold Bus.updateStatLine; dsimp only; split <;> rfl

@[simp] theorem Bus.updateStatLine_timer : b.updateStatLine.timer = b.timer := by
  unfold Bus.updateStatLine; dsimp only; split <;> rfl

@[simp] theorem Bus.updateStatLine_serial : b.updateStatLine.serial = b.serial := by
  unfold Bus.updateStatLine; dsimp only; split <;> rfl

@[simp] theorem Bus.updateStatLine_dma : b.updateStatLine.dma = b.dma := by
  unfold Bus.updateStatLine; dsimp only; split <;> rfl

@[simp] theorem Bus.updateStatLine_irq_ie : b.updateStatLine.irq.ie = b.irq.ie := by
  unfold Bus.updateStatLine; dsimp only; split <;> rfl

/-! `Bus.oamScanEntry` (R525). -/

@[simp] theorem Bus.oamScanEntry_params (k : Nat) : (b.oamScanEntry k).params = b.params := by
  rfl

@[simp] theorem Bus.oamScanEntry_cart (k : Nat) : (b.oamScanEntry k).cart = b.cart := by
  rfl

@[simp] theorem Bus.oamScanEntry_bootMapped (k : Nat) : (b.oamScanEntry k).bootMapped = b.bootMapped := by
  rfl

@[simp] theorem Bus.oamScanEntry_cycles (k : Nat) : (b.oamScanEntry k).cycles = b.cycles := by
  rfl

@[simp] theorem Bus.oamScanEntry_mem (k : Nat) : (b.oamScanEntry k).mem = b.mem := by
  rfl

@[simp] theorem Bus.oamScanEntry_joypad (k : Nat) : (b.oamScanEntry k).joypad = b.joypad := by
  rfl

@[simp] theorem Bus.oamScanEntry_timer (k : Nat) : (b.oamScanEntry k).timer = b.timer := by
  rfl

@[simp] theorem Bus.oamScanEntry_serial (k : Nat) : (b.oamScanEntry k).serial = b.serial := by
  rfl

@[simp] theorem Bus.oamScanEntry_dma (k : Nat) : (b.oamScanEntry k).dma = b.dma := by
  rfl

@[simp] theorem Bus.oamScanEntry_irq (k : Nat) : (b.oamScanEntry k).irq = b.irq := by
  rfl

/-! `Bus.vblankEntry` (R511, R527). -/

@[simp] theorem Bus.vblankEntry_params : b.vblankEntry.params = b.params := by
  unfold Bus.vblankEntry; split <;> rfl

@[simp] theorem Bus.vblankEntry_cart : b.vblankEntry.cart = b.cart := by
  unfold Bus.vblankEntry; split <;> rfl

@[simp] theorem Bus.vblankEntry_bootMapped : b.vblankEntry.bootMapped = b.bootMapped := by
  unfold Bus.vblankEntry; split <;> rfl

@[simp] theorem Bus.vblankEntry_cycles : b.vblankEntry.cycles = b.cycles := by
  unfold Bus.vblankEntry; split <;> rfl

@[simp] theorem Bus.vblankEntry_mem : b.vblankEntry.mem = b.mem := by
  unfold Bus.vblankEntry; split <;> rfl

@[simp] theorem Bus.vblankEntry_joypad : b.vblankEntry.joypad = b.joypad := by
  unfold Bus.vblankEntry; split <;> rfl

@[simp] theorem Bus.vblankEntry_timer : b.vblankEntry.timer = b.timer := by
  unfold Bus.vblankEntry; split <;> rfl

@[simp] theorem Bus.vblankEntry_serial : b.vblankEntry.serial = b.serial := by
  unfold Bus.vblankEntry; split <;> rfl

@[simp] theorem Bus.vblankEntry_dma : b.vblankEntry.dma = b.dma := by
  unfold Bus.vblankEntry; split <;> rfl

@[simp] theorem Bus.vblankEntry_ppu : b.vblankEntry.ppu = b.ppu := by
  unfold Bus.vblankEntry; split <;> rfl

@[simp] theorem Bus.vblankEntry_irq_ie : b.vblankEntry.irq.ie = b.irq.ie := by
  unfold Bus.vblankEntry; split <;> rfl

/-! `Bus.scanDot` (R501). -/

@[simp] theorem Bus.scanDot_params : b.scanDot.params = b.params := by
  unfold Bus.scanDot; split <;> rfl

@[simp] theorem Bus.scanDot_cart : b.scanDot.cart = b.cart := by
  unfold Bus.scanDot; split <;> rfl

@[simp] theorem Bus.scanDot_bootMapped : b.scanDot.bootMapped = b.bootMapped := by
  unfold Bus.scanDot; split <;> rfl

@[simp] theorem Bus.scanDot_cycles : b.scanDot.cycles = b.cycles := by
  unfold Bus.scanDot; split <;> rfl

@[simp] theorem Bus.scanDot_mem : b.scanDot.mem = b.mem := by
  unfold Bus.scanDot; split <;> rfl

@[simp] theorem Bus.scanDot_joypad : b.scanDot.joypad = b.joypad := by
  unfold Bus.scanDot; split <;> rfl

@[simp] theorem Bus.scanDot_timer : b.scanDot.timer = b.timer := by
  unfold Bus.scanDot; split <;> rfl

@[simp] theorem Bus.scanDot_serial : b.scanDot.serial = b.serial := by
  unfold Bus.scanDot; split <;> rfl

@[simp] theorem Bus.scanDot_dma : b.scanDot.dma = b.dma := by
  unfold Bus.scanDot; split <;> rfl

@[simp] theorem Bus.scanDot_irq_ie : b.scanDot.irq.ie = b.irq.ie := by
  unfold Bus.scanDot; split <;> rfl

/-! `Bus.lengthDot` (R505). -/

@[simp] theorem Bus.lengthDot_params : b.lengthDot.params = b.params := by
  unfold Bus.lengthDot; split <;> rfl

@[simp] theorem Bus.lengthDot_cart : b.lengthDot.cart = b.cart := by
  unfold Bus.lengthDot; split <;> rfl

@[simp] theorem Bus.lengthDot_bootMapped : b.lengthDot.bootMapped = b.bootMapped := by
  unfold Bus.lengthDot; split <;> rfl

@[simp] theorem Bus.lengthDot_cycles : b.lengthDot.cycles = b.cycles := by
  unfold Bus.lengthDot; split <;> rfl

@[simp] theorem Bus.lengthDot_mem : b.lengthDot.mem = b.mem := by
  unfold Bus.lengthDot; split <;> rfl

@[simp] theorem Bus.lengthDot_joypad : b.lengthDot.joypad = b.joypad := by
  unfold Bus.lengthDot; split <;> rfl

@[simp] theorem Bus.lengthDot_timer : b.lengthDot.timer = b.timer := by
  unfold Bus.lengthDot; split <;> rfl

@[simp] theorem Bus.lengthDot_serial : b.lengthDot.serial = b.serial := by
  unfold Bus.lengthDot; split <;> rfl

@[simp] theorem Bus.lengthDot_dma : b.lengthDot.dma = b.dma := by
  unfold Bus.lengthDot; split <;> rfl

@[simp] theorem Bus.lengthDot_irq_ie : b.lengthDot.irq.ie = b.irq.ie := by
  unfold Bus.lengthDot; split <;> rfl

/-! `Bus.renderDot` (R506). -/

@[simp] theorem Bus.renderDot_params : b.renderDot.params = b.params := by
  unfold Bus.renderDot; split <;> rfl

@[simp] theorem Bus.renderDot_cart : b.renderDot.cart = b.cart := by
  unfold Bus.renderDot; split <;> rfl

@[simp] theorem Bus.renderDot_bootMapped : b.renderDot.bootMapped = b.bootMapped := by
  unfold Bus.renderDot; split <;> rfl

@[simp] theorem Bus.renderDot_cycles : b.renderDot.cycles = b.cycles := by
  unfold Bus.renderDot; split <;> rfl

@[simp] theorem Bus.renderDot_mem : b.renderDot.mem = b.mem := by
  unfold Bus.renderDot; split <;> rfl

@[simp] theorem Bus.renderDot_joypad : b.renderDot.joypad = b.joypad := by
  unfold Bus.renderDot; split <;> rfl

@[simp] theorem Bus.renderDot_timer : b.renderDot.timer = b.timer := by
  unfold Bus.renderDot; split <;> rfl

@[simp] theorem Bus.renderDot_serial : b.renderDot.serial = b.serial := by
  unfold Bus.renderDot; split <;> rfl

@[simp] theorem Bus.renderDot_dma : b.renderDot.dma = b.dma := by
  unfold Bus.renderDot; split <;> rfl

@[simp] theorem Bus.renderDot_irq_ie : b.renderDot.irq.ie = b.irq.ie := by
  unfold Bus.renderDot; split <;> rfl

/-! `Bus.updateMode` (R502). -/

@[simp] theorem Bus.updateMode_params : b.updateMode.params = b.params := by
  rfl

@[simp] theorem Bus.updateMode_cart : b.updateMode.cart = b.cart := by
  rfl

@[simp] theorem Bus.updateMode_bootMapped : b.updateMode.bootMapped = b.bootMapped := by
  rfl

@[simp] theorem Bus.updateMode_cycles : b.updateMode.cycles = b.cycles := by
  rfl

@[simp] theorem Bus.updateMode_mem : b.updateMode.mem = b.mem := by
  rfl

@[simp] theorem Bus.updateMode_joypad : b.updateMode.joypad = b.joypad := by
  rfl

@[simp] theorem Bus.updateMode_timer : b.updateMode.timer = b.timer := by
  rfl

@[simp] theorem Bus.updateMode_serial : b.updateMode.serial = b.serial := by
  rfl

@[simp] theorem Bus.updateMode_dma : b.updateMode.dma = b.dma := by
  rfl

@[simp] theorem Bus.updateMode_irq_ie : b.updateMode.irq.ie = b.irq.ie := by
  rfl

/-! `Bus.ppuDot` (R501). -/

@[simp] theorem Bus.ppuDot_params : b.ppuDot.params = b.params := by
  unfold Bus.ppuDot; split <;> simp

@[simp] theorem Bus.ppuDot_cart : b.ppuDot.cart = b.cart := by
  unfold Bus.ppuDot; split <;> simp

@[simp] theorem Bus.ppuDot_bootMapped : b.ppuDot.bootMapped = b.bootMapped := by
  unfold Bus.ppuDot; split <;> simp

@[simp] theorem Bus.ppuDot_cycles : b.ppuDot.cycles = b.cycles := by
  unfold Bus.ppuDot; split <;> simp

@[simp] theorem Bus.ppuDot_mem : b.ppuDot.mem = b.mem := by
  unfold Bus.ppuDot; split <;> simp

@[simp] theorem Bus.ppuDot_joypad : b.ppuDot.joypad = b.joypad := by
  unfold Bus.ppuDot; split <;> simp

@[simp] theorem Bus.ppuDot_timer : b.ppuDot.timer = b.timer := by
  unfold Bus.ppuDot; split <;> simp

@[simp] theorem Bus.ppuDot_serial : b.ppuDot.serial = b.serial := by
  unfold Bus.ppuDot; split <;> simp

@[simp] theorem Bus.ppuDot_dma : b.ppuDot.dma = b.dma := by
  unfold Bus.ppuDot; split <;> simp

@[simp] theorem Bus.ppuDot_irq_ie : b.ppuDot.irq.ie = b.irq.ie := by
  unfold Bus.ppuDot; split <;> simp

/-! `Bus.ppuMCycle` (R85 step 5). -/

@[simp] theorem Bus.ppuMCycle_params : b.ppuMCycle.params = b.params := by
  simp [Bus.ppuMCycle]

@[simp] theorem Bus.ppuMCycle_cart : b.ppuMCycle.cart = b.cart := by
  simp [Bus.ppuMCycle]

@[simp] theorem Bus.ppuMCycle_bootMapped : b.ppuMCycle.bootMapped = b.bootMapped := by
  simp [Bus.ppuMCycle]

@[simp] theorem Bus.ppuMCycle_cycles : b.ppuMCycle.cycles = b.cycles := by
  simp [Bus.ppuMCycle]

@[simp] theorem Bus.ppuMCycle_mem : b.ppuMCycle.mem = b.mem := by
  simp [Bus.ppuMCycle]

@[simp] theorem Bus.ppuMCycle_joypad : b.ppuMCycle.joypad = b.joypad := by
  simp [Bus.ppuMCycle]

@[simp] theorem Bus.ppuMCycle_timer : b.ppuMCycle.timer = b.timer := by
  simp [Bus.ppuMCycle]

@[simp] theorem Bus.ppuMCycle_serial : b.ppuMCycle.serial = b.serial := by
  simp [Bus.ppuMCycle]

@[simp] theorem Bus.ppuMCycle_dma : b.ppuMCycle.dma = b.dma := by
  simp [Bus.ppuMCycle]

@[simp] theorem Bus.ppuMCycle_irq_ie : b.ppuMCycle.irq.ie = b.irq.ie := by
  simp [Bus.ppuMCycle]

/-! `Bus.joypadSample` (R461). -/

@[simp] theorem Bus.joypadSample_params : b.joypadSample.params = b.params := by
  unfold Bus.joypadSample; dsimp only; split <;> rfl

@[simp] theorem Bus.joypadSample_cart : b.joypadSample.cart = b.cart := by
  unfold Bus.joypadSample; dsimp only; split <;> rfl

@[simp] theorem Bus.joypadSample_bootMapped : b.joypadSample.bootMapped = b.bootMapped := by
  unfold Bus.joypadSample; dsimp only; split <;> rfl

@[simp] theorem Bus.joypadSample_cycles : b.joypadSample.cycles = b.cycles := by
  unfold Bus.joypadSample; dsimp only; split <;> rfl

@[simp] theorem Bus.joypadSample_mem : b.joypadSample.mem = b.mem := by
  unfold Bus.joypadSample; dsimp only; split <;> rfl

@[simp] theorem Bus.joypadSample_joypad_buttons : b.joypadSample.joypad.buttons = b.joypad.buttons := by
  unfold Bus.joypadSample; dsimp only; split <;> rfl

@[simp] theorem Bus.joypadSample_joypad_p1sel : b.joypadSample.joypad.p1sel = b.joypad.p1sel := by
  unfold Bus.joypadSample; dsimp only; split <;> rfl

@[simp] theorem Bus.joypadSample_timer : b.joypadSample.timer = b.timer := by
  unfold Bus.joypadSample; dsimp only; split <;> rfl

@[simp] theorem Bus.joypadSample_serial : b.joypadSample.serial = b.serial := by
  unfold Bus.joypadSample; dsimp only; split <;> rfl

@[simp] theorem Bus.joypadSample_dma : b.joypadSample.dma = b.dma := by
  unfold Bus.joypadSample; dsimp only; split <;> rfl

@[simp] theorem Bus.joypadSample_ppu : b.joypadSample.ppu = b.ppu := by
  unfold Bus.joypadSample; dsimp only; split <;> rfl

@[simp] theorem Bus.joypadSample_irq_ie : b.joypadSample.irq.ie = b.irq.ie := by
  unfold Bus.joypadSample; dsimp only; split <;> rfl

/-! `Bus.dmaStep` (R483). -/

@[simp] theorem Bus.dmaStep_params : b.dmaStep.params = b.params := by
  unfold Bus.dmaStep; split <;> rfl

@[simp] theorem Bus.dmaStep_cart : b.dmaStep.cart = b.cart := by
  unfold Bus.dmaStep; split <;> rfl

@[simp] theorem Bus.dmaStep_bootMapped : b.dmaStep.bootMapped = b.bootMapped := by
  unfold Bus.dmaStep; split <;> rfl

@[simp] theorem Bus.dmaStep_cycles : b.dmaStep.cycles = b.cycles := by
  unfold Bus.dmaStep; split <;> rfl

@[simp] theorem Bus.dmaStep_joypad : b.dmaStep.joypad = b.joypad := by
  unfold Bus.dmaStep; split <;> rfl

@[simp] theorem Bus.dmaStep_timer : b.dmaStep.timer = b.timer := by
  unfold Bus.dmaStep; split <;> rfl

@[simp] theorem Bus.dmaStep_serial : b.dmaStep.serial = b.serial := by
  unfold Bus.dmaStep; split <;> rfl

@[simp] theorem Bus.dmaStep_dma_reg : b.dmaStep.dma.reg = b.dma.reg := by
  unfold Bus.dmaStep; split <;> rfl

@[simp] theorem Bus.dmaStep_ppu : b.dmaStep.ppu = b.ppu := by
  unfold Bus.dmaStep; split <;> rfl

@[simp] theorem Bus.dmaStep_irq : b.dmaStep.irq = b.irq := by
  unfold Bus.dmaStep; split <;> rfl

@[simp] theorem Bus.dmaStep_events : b.dmaStep.events = b.events := by
  unfold Bus.dmaStep; split <;> rfl

/-! `Bus.oamBugStep` (R520). -/

@[simp] theorem Bus.oamBugStep_params (x : Option Word) : (b.oamBugStep x).params = b.params := by
  unfold Bus.oamBugStep; split <;> rfl

@[simp] theorem Bus.oamBugStep_cart (x : Option Word) : (b.oamBugStep x).cart = b.cart := by
  unfold Bus.oamBugStep; split <;> rfl

@[simp] theorem Bus.oamBugStep_bootMapped (x : Option Word) : (b.oamBugStep x).bootMapped = b.bootMapped := by
  unfold Bus.oamBugStep; split <;> rfl

@[simp] theorem Bus.oamBugStep_cycles (x : Option Word) : (b.oamBugStep x).cycles = b.cycles := by
  unfold Bus.oamBugStep; split <;> rfl

@[simp] theorem Bus.oamBugStep_joypad (x : Option Word) : (b.oamBugStep x).joypad = b.joypad := by
  unfold Bus.oamBugStep; split <;> rfl

@[simp] theorem Bus.oamBugStep_timer (x : Option Word) : (b.oamBugStep x).timer = b.timer := by
  unfold Bus.oamBugStep; split <;> rfl

@[simp] theorem Bus.oamBugStep_serial (x : Option Word) : (b.oamBugStep x).serial = b.serial := by
  unfold Bus.oamBugStep; split <;> rfl

@[simp] theorem Bus.oamBugStep_dma (x : Option Word) : (b.oamBugStep x).dma = b.dma := by
  unfold Bus.oamBugStep; split <;> rfl

@[simp] theorem Bus.oamBugStep_ppu (x : Option Word) : (b.oamBugStep x).ppu = b.ppu := by
  unfold Bus.oamBugStep; split <;> rfl

@[simp] theorem Bus.oamBugStep_irq (x : Option Word) : (b.oamBugStep x).irq = b.irq := by
  unfold Bus.oamBugStep; split <;> rfl

@[simp] theorem Bus.oamBugStep_events (x : Option Word) : (b.oamBugStep x).events = b.events := by
  unfold Bus.oamBugStep; split <;> rfl

/-! `Bus.advance` (R85). -/

@[simp] theorem Bus.advance_params (x : Option Word) : (b.advance x).params = b.params := by
  simp [Bus.advance]

@[simp] theorem Bus.advance_cart (x : Option Word) : (b.advance x).cart = b.cart := by
  simp [Bus.advance]

@[simp] theorem Bus.advance_bootMapped (x : Option Word) : (b.advance x).bootMapped = b.bootMapped := by
  simp [Bus.advance]

@[simp] theorem Bus.advance_joypad_buttons (x : Option Word) : (b.advance x).joypad.buttons = b.joypad.buttons := by
  simp [Bus.advance]

@[simp] theorem Bus.advance_joypad_p1sel (x : Option Word) : (b.advance x).joypad.p1sel = b.joypad.p1sel := by
  simp [Bus.advance]

@[simp] theorem Bus.advance_dma_reg (x : Option Word) : (b.advance x).dma.reg = b.dma.reg := by
  simp [Bus.advance]

@[simp] theorem Bus.advance_irq_ie (x : Option Word) : (b.advance x).irq.ie = b.irq.ie := by
  simp [Bus.advance]

/-- One M-cycle is counted (log entry 10). -/
@[simp] theorem Bus.advance_cycles (x : Option Word) : (b.advance x).cycles = b.cycles + 1 := rfl

/-- Only the OAM bug and the DMA write memory in an M-cycle. -/
theorem Bus.advance_mem (x : Option Word) : (b.advance x).mem = (b.oamBugStep x).dmaStep.mem := by simp [Bus.advance]

/-- The DMA state moves by `DmaStep()` alone. -/
theorem Bus.advance_dma (x : Option Word) : (b.advance x).dma = (b.oamBugStep x).dmaStep.dma := by simp [Bus.advance]

theorem havocOam_wf (cycle n : Nat) (m : Memory) (w : m.wf = true) : (havocOam cycle n m).wf = true := by
  induction n with
  | zero => exact w
  | succ n ih => exact Memory.write_wf _ _ _ ih

/-- The corruption reaches OAM bytes 8 .. 8 + n - 1 only (R520). -/
theorem havocOam_read (cycle n : Nat) (m : Memory) (w : m.wf = true) (j : Nat) (h : j < oamKey 8 ∨ oamKey (8 + n) ≤ j) :
    (havocOam cycle n m).read j = m.read j := by
  induction n with
  | zero => rfl
  | succ n ih =>
    rw [havocOam, Memory.read_write_other _ _ _ (havocOam_wf cycle n m w) (by simp only [oamKey] at *; omega)]
    exact ih (by simp only [oamKey] at *; omega)

theorem Bus.oamBugStep_wf (x : Option Word) (w : b.mem.wf = true) : (b.oamBugStep x).mem.wf = true := by
  unfold Bus.oamBugStep
  split
  · dsimp only
    exact havocOam_wf b.cycles 152 b.mem w
  · exact w

theorem Bus.dmaStep_wf (w : b.mem.wf = true) : b.dmaStep.mem.wf = true := by
  unfold Bus.dmaStep
  split
  · exact w
  · exact w
  · dsimp only
    exact Memory.write_wf _ _ _ w

/-- An M-cycle keeps the canonical form of memory. -/
theorem Bus.advance_wf (x : Option Word) (w : b.mem.wf = true) : (b.advance x).mem.wf = true := by
  rw [Bus.advance_mem]
  exact Bus.dmaStep_wf _ (Bus.oamBugStep_wf b x w)

/-- The devices write no byte outside OAM while the DMA index is in its range (R407, R483, R520). -/
theorem Bus.advance_read (x : Option Word) (w : b.mem.wf = true)
    (hd : ∀ src i, b.dma.st = .active src i → i ≤ 159) (j : Nat) (h : j < 0xFE00 ∨ 0xFEA0 ≤ j) :
    (b.advance x).mem.read j = b.mem.read j := by
  have hbug : (b.oamBugStep x).mem.read j = b.mem.read j := by
    unfold Bus.oamBugStep
    split
    · dsimp only
      exact havocOam_read b.cycles 152 b.mem w j (by simp only [oamKey]; omega)
    · rfl
  rw [Bus.advance_mem, ← hbug]
  generalize hb : b.oamBugStep x = b1
  have hw : b1.mem.wf = true := hb ▸ Bus.oamBugStep_wf b x w
  have hd1 : b1.dma = b.dma := by rw [← hb]; simp
  unfold Bus.dmaStep
  split
  · rfl
  · rfl
  · rename_i src i hi
    have := hd src i (by rw [← hd1]; exact hi)
    dsimp only
    exact Memory.read_write_other _ _ _ hw (by simp only [oamKey]; omega)

/-- With no transfer under way and no corruption in this M-cycle, memory does not change. -/
theorem Bus.advance_mem_quiet (x : Option Word) (h : b.dma.st = .idle) (h' : b.oamBugFires x = false) :
    (b.advance x).mem = b.mem := by
  rw [Bus.advance_mem]
  simp [Bus.oamBugStep, h', Bus.dmaStep, h]

theorem Bus.advance_dma_idle (x : Option Word) (h : b.dma.st = .idle) : (b.advance x).dma = b.dma := by
  rw [Bus.advance_dma]
  have : (b.oamBugStep x).dma = b.dma := by simp
  unfold Bus.dmaStep
  rw [this, h]
  exact this

end Sys2Proof.Machine
end

