-- ==== Sys2Proof/Laws/State.lean ====
section
/-! SUPPORT. One lemma for each field of each update of the machine's state, true by rfl, so that no later proof unfolds a
record update. -/

namespace Sys2Proof.Machine

variable (s : State) (c : Cpu) (g : Cpu → Cpu) (a : Word) (v : Byte) (w : Word)

@[simp] theorem State.mapCpu_cpu : (s.mapCpu g).cpu = g s.cpu := rfl
@[simp] theorem State.mapCpu_bus : (s.mapCpu g).bus = s.bus := rfl
@[simp] theorem State.readCycle_cpu : (s.readCycle a).cpu = s.cpu := rfl
@[simp] theorem State.readCycle_bus : (s.readCycle a).bus = s.bus.advance (some a) := rfl
@[simp] theorem State.writeCycle_cpu : (s.writeCycle a v).cpu = s.cpu := rfl
@[simp] theorem State.writeCycle_bus : (s.writeCycle a v).bus = (s.bus.cpuWrite a v).advance (some a) := rfl
@[simp] theorem State.internal_cpu : s.internal.cpu = s.cpu := rfl
@[simp] theorem State.internal_bus : s.internal.bus = s.bus.advance none := rfl
@[simp] theorem State.internalIdu_cpu : (s.internalIdu w).cpu = s.cpu := rfl
@[simp] theorem State.internalIdu_bus : (s.internalIdu w).bus = s.bus.advance (some w) := rfl
@[simp] theorem State.pushByte_cpu : (s.pushByte v).cpu = { s.cpu with sp := s.cpu.sp - 1 } := rfl
@[simp] theorem State.pushByte_bus :
    (s.pushByte v).bus = (s.bus.cpuWrite (s.cpu.sp - 1) v).advance (some (s.cpu.sp - 1)) := rfl
@[simp] theorem State.popCycle_cpu : s.popCycle.cpu = { s.cpu with sp := s.cpu.sp + 1 } := rfl
@[simp] theorem State.popCycle_bus : s.popCycle.bus = s.bus.advance (some s.cpu.sp) := rfl
@[simp] theorem State.pushWord_cpu : (s.pushWord w).cpu = { s.cpu with sp := s.cpu.sp - 1 - 1 } := rfl
@[simp] theorem State.popCycles_cpu : s.popCycles.cpu = { s.cpu with sp := s.cpu.sp + 1 + 1 } := rfl
@[simp] theorem State.jump_cpu : (s.jump w).cpu = { s.cpu with pc := w } := rfl
@[simp] theorem State.jump_bus : (s.jump w).bus = s.bus := rfl
@[simp] theorem State.callTo_cpu : (s.callTo w).cpu = { s.cpu with sp := s.cpu.sp - 1 - 1, pc := w } := rfl
@[simp] theorem State.callTo_bus : (s.callTo w).bus = ((s.internalIdu s.cpu.sp).pushWord s.cpu.pc).bus := rfl
@[simp] theorem State.returnToCaller_cpu :
    s.returnToCaller.cpu = { s.cpu with sp := s.cpu.sp + 1 + 1, pc := s.popValue } := rfl
@[simp] theorem State.returnToCaller_bus : s.returnToCaller.bus = s.popCycles.bus.advance none := rfl
@[simp] theorem State.resume_cpu : s.resume.cpu = { s.cpu with run := .running } := rfl
@[simp] theorem State.resume_bus : s.resume.bus = s.bus := rfl
@[simp] theorem State.endOfInstruction_bus : s.endOfInstruction.bus = s.bus := rfl
@[simp] theorem State.fetchImm8_cpu : s.fetchImm8.cpu = { s.cpu with pc := s.cpu.pc + 1 } := rfl
@[simp] theorem State.fetchImm8_bus : s.fetchImm8.bus = s.bus.advance (some s.cpu.pc) := rfl
@[simp] theorem State.fetchOpcode_bus : s.fetchOpcode.bus = s.bus.advance (some s.cpu.pc) := rfl

/-- Two states with equal parts are equal. -/
theorem State.ext_parts {s t : State} (h : s.cpu = t.cpu) (h' : s.bus = t.bus) : s = t := by
  cases s; cases t; simp_all

theorem State.internals_cpu (n : Nat) : (State.internals n s).cpu = s.cpu := by
  induction n generalizing s with
  | zero => rfl
  | succ n ih => exact ih s.internal

/-! The 8-bit registers: a write is seen by a read of the same register only, and no other part of the Cpu changes. -/

theorem Cpu.reg_setReg (r r' : Reg8) : (c.setReg r v).reg r' = if r' = r then v else c.reg r' := by
  cases r <;> cases r' <;> rfl

@[simp] theorem Cpu.reg_setReg_same (r : Reg8) : (c.setReg r v).reg r = v := by cases r <;> rfl

theorem Cpu.setReg_self (r : Reg8) : c.setReg r (c.reg r) = c := by cases r <;> rfl

@[simp] theorem Cpu.setReg_f (r : Reg8) : (c.setReg r v).f = c.f := by cases r <;> rfl
@[simp] theorem Cpu.setReg_sp (r : Reg8) : (c.setReg r v).sp = c.sp := by cases r <;> rfl
@[simp] theorem Cpu.setReg_pc (r : Reg8) : (c.setReg r v).pc = c.pc := by cases r <;> rfl
@[simp] theorem Cpu.setReg_ime (r : Reg8) : (c.setReg r v).ime = c.ime := by cases r <;> rfl
@[simp] theorem Cpu.setReg_eiDelay (r : Reg8) : (c.setReg r v).eiDelay = c.eiDelay := by cases r <;> rfl
@[simp] theorem Cpu.setReg_run (r : Reg8) : (c.setReg r v).run = c.run := by cases r <;> rfl
@[simp] theorem Cpu.setReg_haltBug (r : Reg8) : (c.setReg r v).haltBug = c.haltBug := by cases r <;> rfl
@[simp] theorem Cpu.setReg_opAddr (r : Reg8) : (c.setReg r v).opAddr = c.opAddr := by cases r <;> rfl

@[simp] theorem Cpu.setPair_f (p : Pair) : (c.setPair p w).f = c.f := by cases p <;> rfl
@[simp] theorem Cpu.setPair_pc (p : Pair) : (c.setPair p w).pc = c.pc := by cases p <;> rfl
@[simp] theorem Cpu.setPair_ime (p : Pair) : (c.setPair p w).ime = c.ime := by cases p <;> rfl
@[simp] theorem Cpu.setPair_eiDelay (p : Pair) : (c.setPair p w).eiDelay = c.eiDelay := by cases p <;> rfl
@[simp] theorem Cpu.setPair_run (p : Pair) : (c.setPair p w).run = c.run := by cases p <;> rfl

/-! Bytes and words as integers (00_scope.md R20). -/

theorem joinBytes_toNat (h l : Byte) : (joinBytes h l).toNat = h.toNat * 256 + l.toNat := by
  have : (h ++ l).toNat = h.toNat <<< 8 ||| l.toNat := BitVec.toNat_append h l
  rw [← Nat.shiftLeft_add_eq_or_of_lt l.isLt, Nat.shiftLeft_eq] at this
  exact this

theorem lowByte_toNat (w : Word) : (lowByte w).toNat = w.toNat % 256 := by
  simp [lowByte]

theorem highByte_toNat (w : Word) : (highByte w).toNat = w.toNat / 256 := by
  have := w.isLt
  simp only [highByte, BitVec.extractLsb'_toNat, Nat.shiftRight_eq_div_pow]
  omega

/-- A word is its two bytes. -/
theorem joinBytes_high_low : joinBytes (highByte w) (lowByte w) = w := by
  apply BitVec.eq_of_toNat_eq
  rw [joinBytes_toNat, highByte_toNat, lowByte_toNat]
  omega

theorem lowByte_join (h l : Byte) : lowByte (joinBytes h l) = l := by
  apply BitVec.eq_of_toNat_eq
  have := l.isLt
  rw [lowByte_toNat, joinBytes_toNat]
  omega

theorem highByte_join (h l : Byte) : highByte (joinBytes h l) = h := by
  apply BitVec.eq_of_toNat_eq
  have := l.isLt
  rw [highByte_toNat, joinBytes_toNat]
  omega

theorem Cpu.hl_setHl : (c.setHl w).hl = w := joinBytes_high_low w

theorem Cpu.pair_setPair (p : Pair) : (c.setPair p w).pair p = w := by
  cases p <;> first | exact joinBytes_high_low w | rfl

end Sys2Proof.Machine
end

