-- ==== Sys2Proof/Laws/Exec.lean ====
section
/-! SUPPORT. What one instruction can do to the bus: it is a sequence of Cpu writes, device M-cycles and, for STOP, a divider
reset. Every property of the bus that those keep is kept by every instruction, by the fetch, and by taking an interrupt. -/

namespace Sys2Proof.Machine

/-- The conditional control transfers, each by its two branches. -/
theorem jumpIf_bus (P : Bus → Prop) (ha : ∀ b x, P b → P (b.advance x)) (cc : Cond) (a : Word) (s t : State)
    (h : jumpIf cc a s = .next t) (hp : P s.bus) : P t.bus := by
  unfold jumpIf jumpTo at h
  split at h <;> (injection h with h; subst h)
  · exact ha _ _ hp
  · exact hp

theorem callTo_bus (P : Bus → Prop) (ha : ∀ b x, P b → P (b.advance x)) (hw : ∀ b a v, P b → P (b.cpuWrite a v))
    (a : Word) (s : State) (hp : P s.bus) : P (s.callTo a).bus :=
  ha _ _ (hw _ _ _ (ha _ _ (hw _ _ _ (ha _ _ hp))))

theorem callIf_bus (P : Bus → Prop) (ha : ∀ b x, P b → P (b.advance x)) (hw : ∀ b a v, P b → P (b.cpuWrite a v))
    (cc : Cond) (a : Word) (s t : State) (h : callIf cc a s = .next t) (hp : P s.bus) : P t.bus := by
  unfold callIf call at h
  split at h <;> (injection h with h; subst h)
  · exact callTo_bus P ha hw a s hp
  · exact hp

theorem returnToCaller_bus (P : Bus → Prop) (ha : ∀ b x, P b → P (b.advance x)) (s : State) (hp : P s.bus) :
    P s.returnToCaller.bus :=
  ha _ _ (ha _ _ (ha _ _ hp))

theorem retIf_bus (P : Bus → Prop) (ha : ∀ b x, P b → P (b.advance x)) (cc : Cond) (s t : State)
    (h : retIf cc s = .next t) (hp : P s.bus) : P t.bus := by
  unfold retIf at h
  split at h <;> (injection h with h; subst h)
  · exact returnToCaller_bus P ha _ (ha _ _ hp)
  · exact ha _ _ hp

theorem execHalt_bus (P : Bus → Prop) (s t : State) (h : execHalt s = .next t) (hp : P s.bus) : P t.bus := by
  unfold execHalt at h
  split at h
  · split at h <;> (injection h with h; subst h; exact hp)
  · injection h with h; subst h; exact hp

theorem modifyMem_bus (P : Bus → Prop) (ha : ∀ b x, P b → P (b.advance x)) (hw : ∀ b a v, P b → P (b.cpuWrite a v))
    (g : Byte → Bool → FlagResult) (s t : State) (h : modifyMem g s = .next t) (hp : P s.bus) : P t.bus := by
  injection h with h; subst h; exact ha _ _ (hw _ _ _ (ha _ _ hp))

theorem execPrefixCb_bus (P : Bus → Prop) (ha : ∀ b x, P b → P (b.advance x)) (hw : ∀ b a v, P b → P (b.cpuWrite a v))
    (op2 : Byte) (s t : State) (h : execPrefixCb op2 s = .next t) (hp : P s.bus) : P t.bus := by
  unfold execPrefixCb at h
  dsimp only at h
  split at h
  · injection h with h; subst h; exact hp
  · injection h with h; subst h; exact hp
  · injection h with h; subst h; exact hp
  · injection h with h; subst h; exact hp
  · exact modifyMem_bus P ha hw _ s t h hp
  · injection h with h; subst h; exact ha _ _ hp
  · injection h with h; subst h; exact ha _ _ (hw _ _ _ (ha _ _ hp))
  · injection h with h; subst h; exact ha _ _ (hw _ _ _ (ha _ _ hp))

/-- A property of the bus that M-cycles, Cpu writes and the divider reset keep is kept by every instruction. -/
theorem exec_bus (P : Bus → Prop) (ha : ∀ b x, P b → P (b.advance x)) (hw : ∀ b a v, P b → P (b.cpuWrite a v))
    (hd : ∀ b, P b → P (b.setDivider 0)) (i : Instr) (s t : State) (h : exec i s = .next t) (hp : P s.bus) :
    P t.bus := by
  cases i
  case nop => injection h with h; subst h; exact hp
  case halt => exact execHalt_bus P s t h hp
  case prefixCb op2 => exact execPrefixCb_bus P ha hw op2 s t h hp
  case jrNzE e => exact jumpIf_bus P ha .nz _ s t h hp
  case jrZE e => exact jumpIf_bus P ha .z _ s t h hp
  case jrNcE e => exact jumpIf_bus P ha .nc _ s t h hp
  case jrCE e => exact jumpIf_bus P ha .c _ s t h hp
  case jpNzNn nn => exact jumpIf_bus P ha .nz nn s t h hp
  case jpZNn nn => exact jumpIf_bus P ha .z nn s t h hp
  case jpNcNn nn => exact jumpIf_bus P ha .nc nn s t h hp
  case jpCNn nn => exact jumpIf_bus P ha .c nn s t h hp
  case callNzNn nn => exact callIf_bus P ha hw .nz nn s t h hp
  case callZNn nn => exact callIf_bus P ha hw .z nn s t h hp
  case callNcNn nn => exact callIf_bus P ha hw .nc nn s t h hp
  case callCNn nn => exact callIf_bus P ha hw .c nn s t h hp
  case retNz => exact retIf_bus P ha .nz s t h hp
  case retZ => exact retIf_bus P ha .z s t h hp
  case retNc => exact retIf_bus P ha .nc s t h hp
  case retC => exact retIf_bus P ha .c s t h hp
  all_goals first
    | (injection h with h; subst h
       simp only [State.mapCpu_bus, State.readCycle_bus, State.writeCycle_bus, State.internal_bus, State.internalIdu_bus,
         State.pushByte_bus, State.popCycle_bus, State.pushWord, State.popCycles, State.callTo_bus, State.jump_bus,
         State.returnToCaller_bus, State.returnFromInterrupt]
       repeat first
         | with_reducible exact hp
         | with_reducible apply ha
         | with_reducible apply hw
         | with_reducible apply hd)
    | cases h

/-- The same for the fetch M-cycles. -/
theorem fetched_bus (P : Bus → Prop) (ha : ∀ b x, P b → P (b.advance x)) (s : State) (hp : P s.bus) : P s.fetched.bus := by
  have imms : ∀ (n : Nat) (u : State), P u.bus → P (State.fetchImms n u).bus := by
    intro n
    induction n with
    | zero => intro u h; exact h
    | succ n ih => intro u h; exact ih u.fetchImm8 (ha _ _ h)
  exact imms _ _ (ha _ _ hp)

/-- The same for internal M-cycles. -/
theorem internals_bus (P : Bus → Prop) (ha : ∀ b x, P b → P (b.advance x)) (n : Nat) (s : State) (hp : P s.bus) :
    P (State.internals n s).bus := by
  induction n generalizing s with
  | zero => exact hp
  | succ n ih => exact ih s.internal (ha _ _ hp)

/-- The same for taking an interrupt, which clears one request as well. -/
theorem dispatch_bus (P : Bus → Prop) (ha : ∀ b x, P b → P (b.advance x)) (hw : ∀ b a v, P b → P (b.cpuWrite a v))
    (hk : ∀ b k, P b → P (b.acknowledge k)) (s : State) (hp : P s.bus) : P s.dispatch.bus := by
  have h3 : P s.dispatchHigh.bus := ha _ _ (hw _ _ _ (ha _ _ (ha _ _ hp)))
  have h4 : P (s.dispatchHigh.pushByte (lowByte s.cpu.dispatchReturn)).bus := ha _ _ (hw _ _ _ h3)
  refine ha _ _ ?_
  unfold State.takeVector
  split
  · exact h4
  · exact hk _ _ h4

/-- What a running machine's step can answer with a next state: a dispatch, or an instruction and its end. -/
theorem runOne_cases {s t : State} (h : s.runOne = .next t) :
    (s.cpu.ime = true ∧ s.bus.pending ≠ 0 ∧ t = s.dispatch) ∨
    (¬ (s.cpu.ime = true ∧ s.bus.pending ≠ 0) ∧ ∃ u, exec s.fetchedInstr s.fetched = .next u ∧ t = u.endOfInstruction) := by
  unfold State.runOne at h
  split at h
  · injection h with h
    exact .inl ⟨‹_ ∧ _›.1, ‹_ ∧ _›.2, h.symm⟩
  · refine .inr ⟨‹_›, ?_⟩
    unfold finish at h
    split at h
    · injection h with h
      exact ⟨_, ‹_›, h.symm⟩
    · cases h
    · cases h

/-- What a step can answer with a next state: a stopped hold, a halted idle M-cycle, or the running part from a state that
differs by the exit M-cycles and the run mode (60_exceptions.md R402). -/
theorem step_cases {s t : State} (h : s.stepBody = .next t) :
    s.violation = none ∧
    ((s.cpu.run = .stopped ∧ s.bus.joypadWake = false ∧ t = s) ∨
     (s.cpu.run = .halted ∧ s.bus.pending = 0 ∧ t = s.internal) ∨
     ∃ n, (State.internals n s.resume).runOne = .next t) := by
  unfold State.stepBody at h
  split at h
  · cases h
  · cases h
  · rename_i hv _
    refine ⟨hv, ?_⟩
    unfold State.stepByMode at h
    split at h
    · cases h
    · split at h
      · exact .inr (.inr ⟨0, h⟩)
      · injection h with h
        exact .inl ⟨‹_›, Bool.eq_false_iff.mpr ‹_›, h.symm⟩
    · split at h
      · injection h with h
        exact .inr (.inl ⟨‹_›, ‹_›, h.symm⟩)
      · exact .inr (.inr ⟨_, h⟩)
    · rename_i hr
      have : s.resume = s := by
        obtain ⟨c, b⟩ := s
        cases c
        simp_all [State.resume, State.mapCpu]
      exact .inr (.inr ⟨0, by rw [State.internals, this]; exact h⟩)

/-- A property of the bus that every operation keeps is kept by every step. -/
theorem step_bus (P : Bus → Prop) (ha : ∀ b x, P b → P (b.advance x)) (hw : ∀ b a v, P b → P (b.cpuWrite a v))
    (hd : ∀ b, P b → P (b.setDivider 0)) (hk : ∀ b k, P b → P (b.acknowledge k)) (s t : State)
    (h : s.stepBody = .next t) (hp : P s.bus) : P t.bus := by
  obtain ⟨-, ⟨-, -, rfl⟩ | ⟨-, -, rfl⟩ | ⟨n, h⟩⟩ := step_cases h
  · exact hp
  · exact ha _ _ hp
  · have hu := internals_bus P ha n s.resume hp
    rcases runOne_cases h with ⟨-, -, rfl⟩ | ⟨-, u, hx, rfl⟩
    · exact dispatch_bus P ha hw hk _ hu
    · exact exec_bus P ha hw hd _ _ u hx (fetched_bus P ha _ hu)

end Sys2Proof.Machine
end

