-- ==== Sys2Proof/Laws/Flags.lean ====
section
/-! SUPPORT. What each flag computation gives, once each: the packed flag byte read back, and the results of the 8-bit helpers
on the integers (42_alu8.md R250, R275, R277, 44_rotate_shift_bit.md R300 to R326). -/

namespace Sys2Proof.Machine

theorem packFlags_bits (z n h c : Bool) :
    (packFlags z n h c).getLsbD 7 = z ∧ (packFlags z n h c).getLsbD 6 = n ∧ (packFlags z n h c).getLsbD 5 = h ∧
    (packFlags z n h c).getLsbD 4 = c ∧ (packFlags z n h c).extractLsb' 0 4 = 0#4 := by
  cases z <;> cases n <;> cases h <;> cases c <;> decide

/-- A flag byte built by `packFlags` reads as the four conditions. -/
theorem Cpu.flagsAre_of_pack (c : Cpu) (z n h cy : Bool) (Z N H C : Prop) (e : c.f = packFlags z n h cy)
    (hz : z = true ↔ Z) (hn : n = true ↔ N) (hh : h = true ↔ H) (hc : cy = true ↔ C) : c.FlagsAre Z N H C := by
  obtain ⟨e7, e6, e5, e4, e0⟩ := packFlags_bits z n h cy
  unfold Cpu.FlagsAre Cpu.flagZ Cpu.flagN Cpu.flagH Cpu.flagC Cpu.FlagsSound
  rw [e, e7, e6, e5, e4]
  exact ⟨hz, hn, hh, hc, e0⟩

theorem Cpu.flags_of_pack (c : Cpu) (z n h cy : Bool) (e : c.f = packFlags z n h cy) :
    c.flagZ = z ∧ c.flagN = n ∧ c.flagH = h ∧ c.flagC = cy := by
  obtain ⟨e7, e6, e5, e4, -⟩ := packFlags_bits z n h cy
  unfold Cpu.flagZ Cpu.flagN Cpu.flagH Cpu.flagC
  rw [e]
  exact ⟨e7, e6, e5, e4⟩

theorem packFlags_sound (z n h c : Bool) : (packFlags z n h c).extractLsb' 0 4 = 0#4 := (packFlags_bits z n h c).2.2.2.2

theorem add8_res (a v : Byte) (c : Bool) : (add8 a v c).res.toNat = (a.toNat + v.toNat + c.toNat) % 256 := by
  simp [add8]

theorem sub8_res (a v : Byte) (c : Bool) :
    ((sub8 a v c).res.toNat : Int) = ((a.toNat : Int) - v.toNat - c.toNat) % 256 := by
  simp only [sub8, BitVec.toNat_ofInt]
  omega

/-- The half-carry tests of INC and DEC on the integers. -/
theorem low_nibble (v : Byte) :
    ((v &&& 0x0F == 0x0F) = true ↔ v.toNat % 16 = 15) ∧ ((v &&& 0x0F == 0x00) = true ↔ v.toNat % 16 = 0) := by
  revert v
  decide +kernel

/-- A statement for the eight 3-bit codes one by one. -/
theorem forall_code3 (P : BitVec 3 → Prop) (h : ∀ n : Fin 8, P (BitVec.ofFin n)) (y : BitVec 3) : P y := h y.toFin

/-- A statement for the four 2-bit codes one by one. -/
theorem forall_code2 (P : BitVec 2 → Prop) (h : ∀ n : Fin 4, P (BitVec.ofFin n)) (y : BitVec 2) : P y := h y.toFin

/-- Every rotate and shift on the integers. -/
theorem RotOp.result_code (op : RotOp) (y : BitVec 3) (e : op = rotOfCode y) (v : Byte) (c : Bool) :
    (op.result v c).toNat = rotated y v.toNat c.toNat := by
  subst e
  revert y
  apply forall_code3
  intro n
  revert v c
  fin_cases n <;> decide +kernel

/-- The carry of every rotate and shift on the integers. -/
theorem RotOp.carry_code (op : RotOp) (y : BitVec 3) (e : op = rotOfCode y) (v : Byte) :
    op.carry v = true ↔ rotatedOut y v.toNat := by
  subst e
  revert y
  apply forall_code3
  intro n
  fin_cases n
  · show RotOp.carry .rlc v = true ↔ 128 ≤ v.toNat
    revert v; decide +kernel
  · show RotOp.carry .rrc v = true ↔ v.toNat % 2 = 1
    revert v; decide +kernel
  · show RotOp.carry .rl v = true ↔ 128 ≤ v.toNat
    revert v; decide +kernel
  · show RotOp.carry .rr v = true ↔ v.toNat % 2 = 1
    revert v; decide +kernel
  · show RotOp.carry .sla v = true ↔ 128 ≤ v.toNat
    revert v; decide +kernel
  · show RotOp.carry .sra v = true ↔ v.toNat % 2 = 1
    revert v; decide +kernel
  · show RotOp.carry .swap v = true ↔ False
    revert v; decide +kernel
  · show RotOp.carry .srl v = true ↔ v.toNat % 2 = 1
    revert v; decide +kernel

theorem ofNat_high (w : Word) : BitVec.ofNat 8 (w.toNat / 256) = highByte w := by
  apply BitVec.eq_of_toNat_eq
  rw [highByte_toNat]
  have := w.isLt
  simp
  omega

theorem ofNat_low (w : Word) : BitVec.ofNat 8 w.toNat = lowByte w := by
  apply BitVec.eq_of_toNat_eq
  rw [lowByte_toNat]
  simp

end Sys2Proof.Machine
end

