-- ==== Sys2Proof/Laws/Write.lean ====
section
/-! SUPPORT. What a Cpu write (20_memory.md R87) can do: it stores at most one byte, at the key of `Bus.storeKey`, or has an
effect on a device, and leaves the rest alone. -/

namespace Sys2Proof.Machine

variable (b : Bus) (a : Word) (v : Byte)

/-- A write that stores a byte changes memory alone. -/
theorem Bus.cpuWrite_store {k : Nat} (h : b.storeKey a = some k) :
    b.cpuWrite a v = { b with mem := b.mem.write k (b.storeByte a v) } := by
  unfold Bus.cpuWrite; rw [h]

/-- A write that stores no byte acts on a device. -/
theorem Bus.cpuWrite_side (h : b.storeKey a = none) : b.cpuWrite a v = b.sideWrite a v := by
  unfold Bus.cpuWrite; rw [h]

/-- A property of the bus that a memory store and every side effect keep is kept by every write. -/
theorem Bus.cpuWrite_cases (P : Bus → Prop) (hs : ∀ k w, P { b with mem := b.mem.write k w }) (hd : P (b.sideWrite a v)) :
    P (b.cpuWrite a v) := by
  unfold Bus.cpuWrite
  split
  · exact hs _ _
  · exact hd

/-! The device effects leave memory, the parameters and the cycle count alone. -/

theorem Bus.writeLcdc_mem : (b.writeLcdc v).mem = b.mem := by
  unfold Bus.writeLcdc; dsimp only; split
  · rfl
  · split <;> simp

theorem Bus.writeStat_mem : (b.writeStat v).mem = b.mem := by simp [Bus.writeStat]

theorem Bus.writeLyc_mem : (b.writeLyc v).mem = b.mem := by simp [Bus.writeLyc]

theorem Bus.ioWrite_mem : (b.ioWrite a v).mem = b.mem := by
  unfold Bus.ioWrite
  split
  · rfl
  · split <;> first
      | rfl
      | exact Bus.setDivider_mem b 0
      | exact Bus.writeLcdc_mem b v
      | exact Bus.writeStat_mem b v
      | exact Bus.writeLyc_mem b v
      | (split <;> rfl)

theorem Bus.controlWrite_mem : (b.controlWrite a v).mem = b.mem := by
  unfold Bus.controlWrite; dsimp only; split <;> rfl

theorem Bus.sideWrite_mem : (b.sideWrite a v).mem = b.mem := by
  unfold Bus.sideWrite
  split
  · rfl
  · split
    · exact Bus.controlWrite_mem b a v
    · unfold Bus.ramControlWrite; split <;> rfl
    · exact Bus.ioWrite_mem b a v
    · rfl
    · rfl

/-- A write keeps the canonical form of memory. -/
theorem Bus.cpuWrite_wf (w : b.mem.wf = true) : (b.cpuWrite a v).mem.wf = true := by
  cases h : b.storeKey a with
  | none => rw [Bus.cpuWrite_side b a v h, Bus.sideWrite_mem]; exact w
  | some k => rw [Bus.cpuWrite_store b a v h]; exact Memory.write_wf _ _ _ w

/-- Every byte but the one stored to reads as before. -/
theorem Bus.cpuWrite_read_other (w : b.mem.wf = true) {k : Nat} (h : b.storeKey a ≠ some k) :
    (b.cpuWrite a v).mem.read k = b.mem.read k := by
  cases hk : b.storeKey a with
  | none => rw [Bus.cpuWrite_side b a v hk, Bus.sideWrite_mem]
  | some j =>
    rw [Bus.cpuWrite_store b a v hk]
    exact Memory.read_write_other _ _ _ w (fun e => h (by rw [hk, e]))

/-- The byte stored reads back. -/
theorem Bus.cpuWrite_read_same (w : b.mem.wf = true) {k : Nat} (h : b.storeKey a = some k) :
    (b.cpuWrite a v).mem.read k = b.storeByte a v := by
  rw [Bus.cpuWrite_store b a v h]
  exact Memory.read_write_same _ _ _ w

/-! What a write never changes. -/

theorem Bus.writeLcdc_params : (b.writeLcdc v).params = b.params := by
  unfold Bus.writeLcdc; dsimp only; split
  · rfl
  · split <;> simp

theorem Bus.writeLcdc_cycles : (b.writeLcdc v).cycles = b.cycles := by
  unfold Bus.writeLcdc; dsimp only; split
  · rfl
  · split <;> simp

theorem Bus.writeLcdc_cart : (b.writeLcdc v).cart = b.cart := by
  unfold Bus.writeLcdc; dsimp only; split
  · rfl
  · split <;> simp

theorem Bus.writeLcdc_joypad : (b.writeLcdc v).joypad = b.joypad := by
  unfold Bus.writeLcdc; dsimp only; split
  · rfl
  · split <;> simp

theorem Bus.writeLcdc_bootMapped : (b.writeLcdc v).bootMapped = b.bootMapped := by
  unfold Bus.writeLcdc; dsimp only; split
  · rfl
  · split <;> simp

theorem Bus.writeLcdc_dma : (b.writeLcdc v).dma = b.dma := by
  unfold Bus.writeLcdc; dsimp only; split
  · rfl
  · split <;> simp

theorem Bus.writeLcdc_serial : (b.writeLcdc v).serial = b.serial := by
  unfold Bus.writeLcdc; dsimp only; split
  · rfl
  · split <;> simp

/-- The parameters. -/
@[simp] theorem Bus.cpuWrite_params : (b.cpuWrite a v).params = b.params := by
  refine Bus.cpuWrite_cases b a v (fun x => x.params = b.params) (fun _ _ => rfl) ?_
  unfold Bus.sideWrite
  split
  · rfl
  · split
    · unfold Bus.controlWrite; dsimp only; split <;> rfl
    · unfold Bus.ramControlWrite; split <;> rfl
    · unfold Bus.ioWrite
      split
      · rfl
      · split <;> first
          | rfl
          | exact Bus.setDivider_params b 0
          | exact Bus.writeLcdc_params b v
          | exact Bus.updateStatLine_params _
          | (split <;> rfl)
    · rfl
    · rfl

/-- A write is no M-cycle by itself. -/
@[simp] theorem Bus.cpuWrite_cycles : (b.cpuWrite a v).cycles = b.cycles := by
  refine Bus.cpuWrite_cases b a v (fun x => x.cycles = b.cycles) (fun _ _ => rfl) ?_
  unfold Bus.sideWrite
  split
  · rfl
  · split
    · unfold Bus.controlWrite; dsimp only; split <;> rfl
    · unfold Bus.ramControlWrite; split <;> rfl
    · unfold Bus.ioWrite
      split
      · rfl
      · split <;> first
          | rfl
          | exact Bus.setDivider_cycles b 0
          | exact Bus.writeLcdc_cycles b v
          | exact Bus.updateStatLine_cycles _
          | (split <;> rfl)
    · rfl
    · rfl

/-- The buttons, which the host alone writes (10_state.md R49). -/
@[simp] theorem Bus.cpuWrite_buttons : (b.cpuWrite a v).joypad.buttons = b.joypad.buttons := by
  refine Bus.cpuWrite_cases b a v (fun x => x.joypad.buttons = b.joypad.buttons) (fun _ _ => rfl) ?_
  unfold Bus.sideWrite
  split
  · rfl
  · split
    · unfold Bus.controlWrite; dsimp only; split <;> rfl
    · unfold Bus.ramControlWrite; split <;> rfl
    · unfold Bus.ioWrite
      split
      · rfl
      · split <;> first
          | rfl
          | (rw [Bus.setDivider_joypad])
          | (rw [Bus.writeLcdc_joypad])
          | exact congrArg Joypad.buttons (Bus.updateStatLine_joypad _)
          | (split <;> rfl)
    · rfl
    · rfl

/-- The DMA state changes by a write to its register alone (60_exceptions.md R481). -/
theorem Bus.cpuWrite_dma : (b.cpuWrite a v).dma = b.dma ∨ (b.cpuWrite a v).dma = (b.writeDma v).dma := by
  refine Bus.cpuWrite_cases b a v (fun x => x.dma = b.dma ∨ x.dma = (b.writeDma v).dma) (fun _ _ => .inl rfl) ?_
  unfold Bus.sideWrite
  split
  · exact .inl rfl
  · split
    · unfold Bus.controlWrite; dsimp only; split <;> exact .inl rfl
    · unfold Bus.ramControlWrite; split <;> exact .inl rfl
    · unfold Bus.ioWrite
      split
      · exact .inl rfl
      · split <;> first
          | exact .inl rfl
          | exact .inr rfl
          | exact .inl (Bus.setDivider_dma b 0)
          | exact .inl (Bus.writeLcdc_dma b v)
          | exact .inl (Bus.updateStatLine_dma _)
          | (split <;> exact .inl rfl)
    · exact .inl rfl
    · exact .inl rfl

end Sys2Proof.Machine
end

