-- ==== Sys2Proof/Laws/Valid.lean ====
section
/-! SUPPORT. The invariants of 60_exceptions.md R407 as a property of the Cpu and one of the bus, and that every device M-cycle
and every Cpu write keeps the bus part. -/

namespace Sys2Proof.Machine

/-- The DMA part of R407, by the startup length. -/
def DmaState.Valid (startup : Nat) : DmaState → Prop
  | .idle => True
  | .starting _ n _ => 1 ≤ n ∧ n ≤ startup + 1
  | .active _ i => i ≤ 159

/-- The PPU part of R407. -/
def Ppu.Valid (p : Ppu) : Prop :=
  p.dot ≤ 455 ∧ p.ly ≤ 153 ∧ (p.lcdOn = false → p.ly = 0 ∧ p.dot = 0 ∧ p.mode = .hblank)

/-- The bus part of R407. -/
def Bus.Valid (b : Bus) : Prop := b.dma.st.Valid b.params.dmaStartup ∧ b.ppu.Valid ∧ b.serial.bits ≤ 8

/-- A test of `State.violation` is passed. -/
theorem ite_some_eq_none {α : Type} {p : Prop} [Decidable p] (x : α) (y : Option α) :
    (if p then some x else y) = none ↔ ¬ p ∧ y = none := by
  split <;> simp_all

/-- R407 holds exactly when no violation is found. -/
theorem State.valid_iff (s : State) : s.Valid ↔ ¬ (s.cpu.eiDelay ≠ 0 ∧ s.cpu.ime = true) ∧ s.bus.Valid := by
  unfold State.Valid State.violation Bus.Valid Ppu.Valid
  simp only [ite_some_eq_none, and_true, Nat.not_lt, not_and]
  refine and_congr_right fun _ => ?_
  cases s.bus.dma.st <;> simp [DmaState.Valid, Nat.one_le_iff_ne_zero] <;> tauto

theorem Bus.Valid.of_parts {b b' : Bus} (h : b.Valid) (hp : b'.params = b.params) (hd : b'.dma = b.dma)
    (hu : b'.ppu = b.ppu) (hs : b'.serial = b.serial) : b'.Valid := by
  unfold Bus.Valid at *
  rw [hp, hd, hu, hs]
  exact h

/-! The PPU. -/

theorem Ppu.nextDot_range (p : Ppu) (h : p.dot ≤ 455 ∧ p.ly ≤ 153) : p.nextDot.dot ≤ 455 ∧ p.nextDot.ly ≤ 153 := by
  unfold Ppu.nextDot
  split
  · split
    · exact ⟨Nat.zero_le _, Nat.zero_le _⟩
    · exact ⟨Nat.zero_le _, by dsimp only; omega⟩
  · exact ⟨by dsimp only; omega, h.2⟩

@[simp] theorem Bus.updateStatLine_ppu (b : Bus) :
    b.updateStatLine.ppu = { b.ppu with statLine := b.ppu.statCondition b.params } := by
  unfold Bus.updateStatLine; dsimp only; split <;> rfl

theorem Bus.scanDot_ppu (b : Bus) : ∃ l, b.scanDot.ppu = { b.ppu with sel := l } := by
  unfold Bus.scanDot
  split
  · exact ⟨_, rfl⟩
  · exact ⟨b.ppu.sel, rfl⟩

theorem Bus.lengthDot_ppu (b : Bus) : ∃ n, b.lengthDot.ppu = { b.ppu with l3 := n } := by
  unfold Bus.lengthDot
  split
  · exact ⟨_, rfl⟩
  · exact ⟨b.ppu.l3, rfl⟩

theorem Bus.renderDot_ppu (b : Bus) : ∃ f n, b.renderDot.ppu = { b.ppu with fb := f, wline := n } := by
  unfold Bus.renderDot
  split
  · exact ⟨_, _, rfl⟩
  · exact ⟨b.ppu.fb, b.ppu.wline, rfl⟩

/-- What a dot leaves of the position, and of everything but the line's own state (R501). -/
theorem Bus.ppuDot_ppu (b : Bus) (h : b.ppu.lcdOn = true) :
    ∃ l n f w m st, b.ppuDot.ppu =
      { b.ppu.nextDot with sel := l, l3 := n, fb := f, wline := w, mode := m, statLine := st } := by
  unfold Bus.ppuDot
  rw [if_pos h]
  generalize hb : ({ b with ppu := b.ppu.nextDot } : Bus).vblankEntry = b1
  have h1 : b1.ppu = b.ppu.nextDot := by rw [← hb]; simp
  obtain ⟨l, h2⟩ := b1.scanDot_ppu
  obtain ⟨n, h3⟩ := b1.scanDot.lengthDot_ppu
  obtain ⟨f, w, h4⟩ := b1.scanDot.lengthDot.renderDot_ppu
  generalize hx : b1.scanDot.lengthDot.renderDot = x at h4
  obtain ⟨m, hm⟩ : ∃ m, x.updateMode.ppu = { x.ppu with mode := m } := ⟨_, rfl⟩
  obtain ⟨st, hs⟩ : ∃ st, x.updateMode.updateStatLine.ppu = { x.updateMode.ppu with statLine := st } :=
    ⟨_, Bus.updateStatLine_ppu _⟩
  exact ⟨l, n, f, w, m, st, by rw [hs, hm, h4, h3, h2, h1]⟩

theorem Ppu.nextDot_lcdc (p : Ppu) : p.nextDot.lcdc = p.lcdc := by
  unfold Ppu.nextDot
  split
  · split <;> rfl
  · rfl

theorem Bus.ppuDot_valid (b : Bus) (h : b.Valid) : b.ppuDot.Valid := by
  obtain ⟨hd, hp, hs⟩ := h
  refine ⟨by simpa using hd, ?_, by simpa using hs⟩
  cases hon : b.ppu.lcdOn with
  | false => unfold Bus.ppuDot; rw [if_neg (by simp [hon])]; exact hp
  | true =>
    obtain ⟨l, n, f, w, m, st, hq⟩ := b.ppuDot_ppu hon
    have hr := b.ppu.nextDot_range ⟨hp.1, hp.2.1⟩
    rw [hq]
    refine ⟨hr.1, hr.2, fun hoff => ?_⟩
    have : b.ppu.lcdOn = false := by
      unfold Ppu.lcdOn at *
      dsimp only at hoff
      rwa [Ppu.nextDot_lcdc] at hoff
    rw [this] at hon
    cases hon

/-! The other devices. -/

theorem Bus.serialShiftEdge_bits (b : Bus) (h : b.serial.bits ≤ 8) : b.serialShiftEdge.serial.bits ≤ 8 := by
  unfold Bus.serialShiftEdge
  split
  · exact h
  · dsimp only
    split <;> simp <;> omega

theorem Bus.setDivider_valid (b : Bus) (d : Word) (h : b.Valid) : (b.setDivider d).Valid := by
  obtain ⟨hd, hp, hs⟩ := h
  refine ⟨by simpa using hd, by simpa using hp, ?_⟩
  unfold Bus.setDivider
  dsimp only
  split <;> split <;> first
    | exact hs
    | exact Bus.serialShiftEdge_bits _ hs

theorem Bus.timerMCycle_valid (b : Bus) (h : b.Valid) : b.timerMCycle.Valid := by
  have hr : b.timerReload.Valid := h.of_parts (by simp) (by simp) (by simp) (by simp)
  exact Bus.setDivider_valid _ _ (Bus.setDivider_valid _ _ (Bus.setDivider_valid _ _ (Bus.setDivider_valid _ _ hr)))

theorem Bus.dmaStep_valid (b : Bus) (h : b.Valid) : b.dmaStep.Valid := by
  obtain ⟨hd, hp, hs⟩ := h
  refine ⟨?_, by simpa using hp, by simpa using hs⟩
  unfold Bus.dmaStep
  split
  · exact hd
  · rename_i src n blocked hst
    rw [hst] at hd
    dsimp only
    split
    · exact ⟨by omega, by have := hd.2; omega⟩
    · exact Nat.zero_le _
  · rename_i src i hst
    rw [hst] at hd
    dsimp only
    split
    · trivial
    · have : i ≤ 159 := hd
      show i + 1 ≤ 159
      omega

/-- One M-cycle of the devices keeps the bus part of R407. -/
theorem Bus.advance_valid (b : Bus) (x : Option Word) (h : b.Valid) : (b.advance x).Valid := by
  have h1 : (b.oamBugStep x).Valid := h.of_parts (by simp) (by simp) (by simp) (by simp)
  have h2 := Bus.timerMCycle_valid _ (Bus.dmaStep_valid _ h1)
  have h3 : (b.oamBugStep x).dmaStep.timerMCycle.ppuMCycle.Valid :=
    Bus.ppuDot_valid _ (Bus.ppuDot_valid _ (Bus.ppuDot_valid _ (Bus.ppuDot_valid _ h2)))
  have h4 : (b.oamBugStep x).dmaStep.timerMCycle.ppuMCycle.joypadSample.Valid :=
    h3.of_parts (by simp) (by simp) (by simp) (by simp)
  exact h4

/-! Cpu writes. -/

theorem Bus.writeLcdc_valid (b : Bus) (v : Byte) (h : b.Valid) : (b.writeLcdc v).Valid := by
  obtain ⟨hd, hp, hs⟩ := h
  refine ⟨?_, ?_, ?_⟩
  · rw [Bus.writeLcdc_dma, Bus.writeLcdc_params]; exact hd
  · unfold Bus.writeLcdc
    dsimp only
    split
    · exact ⟨by simp, by simp, fun _ => ⟨rfl, rfl, rfl⟩⟩
    · split
      · rename_i hon
        rw [Bus.updateStatLine_ppu]
        refine ⟨by simp [Bus.updateMode, Bus.oamScanEntry], by simp [Bus.updateMode, Bus.oamScanEntry], fun hoff => ?_⟩
        simp only [Bool.and_eq_true] at hon
        exact absurd (hon.2.symm.trans hoff) (by decide)
      · rename_i h1 h2
        rw [Bus.updateStatLine_ppu]
        refine ⟨hp.1, hp.2.1, fun hoff => ?_⟩
        cases hb : b.ppu.lcdOn with
        | false => exact hp.2.2 hb
        | true =>
          exfalso
          apply h1
          rw [hb]
          simp only [Bool.true_and, Bool.not_eq_true']
          exact hoff
  · rw [Bus.writeLcdc_serial]; exact hs

theorem Bus.updateStatLine_valid (b : Bus) (h : b.Valid) : b.updateStatLine.Valid := by
  refine ⟨by simpa using h.1, ?_, by simpa using h.2.2⟩
  rw [Bus.updateStatLine_ppu]
  exact h.2.1

theorem Bus.writeDma_valid (b : Bus) (v : Byte) (h : b.Valid) : (b.writeDma v).Valid :=
  ⟨⟨Nat.le_add_left _ _, Nat.le_refl _⟩, h.2.1, h.2.2⟩

theorem Serial.writeSc_bits (s : Serial) (v : Byte) : (s.writeSc v).bits ≤ 8 := by
  simp only [Serial.writeSc]
  split <;> omega

/-- A Cpu write keeps the bus part of R407. -/
theorem Bus.cpuWrite_valid (b : Bus) (a : Word) (v : Byte) (h : b.Valid) : (b.cpuWrite a v).Valid := by
  refine Bus.cpuWrite_cases b a v Bus.Valid (fun _ _ => h) ?_
  unfold Bus.sideWrite
  split
  · exact h
  · split
    · unfold Bus.controlWrite; dsimp only; split <;> exact h
    · unfold Bus.ramControlWrite; split <;> exact h
    · unfold Bus.ioWrite
      split
      · exact h
      · split <;> first
          | exact h
          | exact Bus.setDivider_valid b 0 h
          | exact Bus.writeLcdc_valid b v h
          | exact Bus.writeDma_valid b v h
          | exact ⟨h.1, h.2.1, Serial.writeSc_bits b.serial v⟩
          | exact Bus.updateStatLine_valid _ h
          | (split <;> exact h)
    · exact h
    · exact h

theorem Bus.acknowledge_valid (b : Bus) (k : Nat) (h : b.Valid) : (b.acknowledge k).Valid := h

end Sys2Proof.Machine
end

