-- ==== Sys2Proof/Laws/Line.lean ====
section
/-! SUPPORT. The state of a line under the PPU's operations: the pixel-transfer length and the selected sprites stay in their
ranges (60_exceptions.md R505, R525), and the window line counter never passes the visible lines of the frame (R524); the shade of a blanked background (R518). -/

namespace Sys2Proof.Machine

/-- A background blanked by LCDC bit 0 has BGP's shade of index 0 wherever no sprite is drawn (R507, R518; log entry 26). -/
theorem pixel_blank (m : Memory) (p : Ppu) (x y : Nat) (h : p.lcdc.getLsbD 0 = false) (hs : winningSprite m p x y = none) :
    pixel m p x y = p.bgp.extractLsb' 0 2 := by
  unfold pixel bgIndex
  rw [hs, h]
  rfl

theorem Bus.mode3Extra_le (b : Bus) : b.mode3Extra ≤ 117 := by
  unfold Bus.mode3Extra
  split
  · rename_i n _
    have := n.isLt
    omega
  · exact Nat.min_le_left _ _
  · have := (Config.mode3Free b.lineState).isLt
    omega

/-- One entry of the OAM scan adds at most itself, and none after the tenth (R525). -/
theorem Bus.oamScanEntry_sel (b : Bus) (k : Nat) (h : b.ppu.sel.length ≤ 10) : (b.oamScanEntry k).ppu.sel.length ≤ 10 := by
  unfold Bus.oamScanEntry
  dsimp only
  have hc : (if k = 0 then [] else b.ppu.sel).length ≤ 10 := by
    split
    · exact Nat.zero_le _
    · exact h
  generalize (if k = 0 then [] else b.ppu.sel) = chosen at hc
  split
  · rename_i hit
    simp only [Bool.and_eq_true, decide_eq_true_eq] at hit
    rw [List.length_append, List.length_singleton]
    exact hit.1.1
  · exact hc

/-- What a dot leaves of the window line counter: one more exactly when the line is rendered with the window (R506, R524),
0 at the start of a frame (R501). -/
theorem Bus.ppuDot_wline (b : Bus) (h : b.ppu.lcdOn = true) :
    b.ppuDot.ppu.wline = b.ppu.nextDot.wline ∨
    (b.ppuDot.ppu.wline = b.ppu.nextDot.wline + 1 ∧ b.ppuDot.ppu.ly < 144 ∧
      b.ppuDot.ppu.dot = 80 + b.ppuDot.ppu.l3) := by
  unfold Bus.ppuDot
  rw [if_pos h]
  generalize hb : ({ b with ppu := b.ppu.nextDot } : Bus).vblankEntry.scanDot.lengthDot = x
  have hw : x.ppu.wline = b.ppu.nextDot.wline := by
    rw [← hb]
    obtain ⟨n, e2⟩ := ({ b with ppu := b.ppu.nextDot } : Bus).vblankEntry.scanDot.lengthDot_ppu
    obtain ⟨l, e1⟩ := ({ b with ppu := b.ppu.nextDot } : Bus).vblankEntry.scanDot_ppu
    rw [e2, e1]
    simp
  rw [Bus.updateStatLine_ppu]
  unfold Bus.renderDot
  split
  · rename_i hr
    unfold Bus.renderLine Bus.updateMode
    dsimp only
    split
    · exact .inr ⟨by rw [hw], hr.1, hr.2⟩
    · exact .inl hw
  · exact .inl hw

/-- A dot fixes the pixel-transfer length at dot 80 only (R505). -/
theorem Bus.ppuDot_l3 (b : Bus) (h : b.ppu.lcdOn = true) :
    b.ppuDot.ppu.l3 = b.ppu.l3 ∨
    (b.ppuDot.ppu.dot = 80 ∧ 172 ≤ b.ppuDot.ppu.l3 ∧ b.ppuDot.ppu.l3 ≤ 289) := by
  have hl : b.ppu.nextDot.l3 = b.ppu.l3 := by
    unfold Ppu.nextDot
    split
    · split <;> rfl
    · rfl
  unfold Bus.ppuDot
  rw [if_pos h, Bus.updateStatLine_ppu]
  generalize hb : ({ b with ppu := b.ppu.nextDot } : Bus).vblankEntry.scanDot = x
  have hx : x.ppu.l3 = b.ppu.l3 := by
    rw [← hb]
    obtain ⟨l, e⟩ := ({ b with ppu := b.ppu.nextDot } : Bus).vblankEntry.scanDot_ppu
    rw [e]
    simp [hl]
  obtain ⟨f, w, e⟩ := x.lengthDot.renderDot_ppu
  have e3 : x.lengthDot.renderDot.updateMode.ppu.l3 = x.lengthDot.ppu.l3 := by
    show x.lengthDot.renderDot.ppu.l3 = _
    rw [e]
  have e4 : x.lengthDot.renderDot.updateMode.ppu.dot = x.lengthDot.ppu.dot := by
    show x.lengthDot.renderDot.ppu.dot = _
    rw [e]
  dsimp only
  rw [e3, e4]
  unfold Bus.lengthDot
  split
  · rename_i hd
    have := x.mode3Extra_le
    exact .inr ⟨hd.2, by dsimp only; omega, by dsimp only; omega⟩
  · exact .inl hx

/-- A dot keeps the window line counter sound. -/
theorem Bus.ppuDot_window (b : Bus) (hv : b.ppu.dot ≤ 455 ∧ b.ppu.ly ≤ 153) (hl : 172 ≤ b.ppu.l3 ∧ b.ppu.l3 ≤ 289)
    (h : b.WindowSound) : b.ppuDot.WindowSound := by
  cases hon : b.ppu.lcdOn with
  | false =>
    have e : b.ppuDot = b := by
      unfold Bus.ppuDot
      rw [if_neg (by simp [hon])]
    rw [e]
    exact h
  | true =>
    have hw := b.ppuDot_wline hon
    have h3 := b.ppuDot_l3 hon
    obtain ⟨l, n, f, w, m, st, hq⟩ := b.ppuDot_ppu hon
    have hd : b.ppuDot.ppu.dot = b.ppu.nextDot.dot := by rw [hq]
    have hy : b.ppuDot.ppu.ly = b.ppu.nextDot.ly := by rw [hq]
    have hb := h.2 hon
    unfold Bus.WindowSound
    suffices hs : b.ppuDot.ppu.wline ≤ 144 ∧ b.ppuDot.ppu.wline ≤ b.ppuDot.ppu.linesRendered from ⟨hs.1, fun _ => hs.2⟩
    unfold Ppu.linesRendered at *
    rw [hd, hy] at *
    generalize b.ppuDot.ppu.wline = w' at *
    generalize b.ppuDot.ppu.l3 = l' at *
    unfold Ppu.nextDot at *
    split at hw
    · split at hw <;> simp only [*, if_true, if_false] at * <;> split at hb <;> split <;> (try split) <;> (try split at hb) <;> omega
    · simp only [*, if_false] at *
      split at hb <;> split <;> (try split) <;> (try split at hb) <;> omega

end Sys2Proof.Machine
end

