-- ==== Sys2Proof/Laws/PerInstr.lean ====
section
/-! SUPPORT. Per-instruction lemmas about the encoding: its number of bytes is the length that its first byte announces, the
"length" of the row in spec/opcode_table.json (30_encoding.md R150, R158). -/

namespace Sys2Proof.Laws.EncodedLength

/-- The encoding of `i` has the length of its row, from 1 to 3 bytes. -/
def Statement (i : Instr) : Prop := (encode i).length = i.length ∧ 1 ≤ i.length ∧ i.length ≤ 3

theorem nop : Statement (.nop) := ⟨rfl, (by decide : 1 ≤ 1), (by decide : 1 ≤ 3)⟩
theorem ldBcNn (nn : Word) : Statement (.ldBcNn nn) := ⟨rfl, (by decide : 1 ≤ 3), (by decide : 3 ≤ 3)⟩
theorem ldAtBcA : Statement (.ldAtBcA) := ⟨rfl, (by decide : 1 ≤ 1), (by decide : 1 ≤ 3)⟩
theorem incBc : Statement (.incBc) := ⟨rfl, (by decide : 1 ≤ 1), (by decide : 1 ≤ 3)⟩
theorem incB : Statement (.incB) := ⟨rfl, (by decide : 1 ≤ 1), (by decide : 1 ≤ 3)⟩
theorem decB : Statement (.decB) := ⟨rfl, (by decide : 1 ≤ 1), (by decide : 1 ≤ 3)⟩
theorem ldBN (n : Byte) : Statement (.ldBN n) := ⟨rfl, (by decide : 1 ≤ 2), (by decide : 2 ≤ 3)⟩
theorem rlca : Statement (.rlca) := ⟨rfl, (by decide : 1 ≤ 1), (by decide : 1 ≤ 3)⟩
theorem ldAtNnSp (nn : Word) : Statement (.ldAtNnSp nn) := ⟨rfl, (by decide : 1 ≤ 3), (by decide : 3 ≤ 3)⟩
theorem addHlBc : Statement (.addHlBc) := ⟨rfl, (by decide : 1 ≤ 1), (by decide : 1 ≤ 3)⟩
theorem ldAAtBc : Statement (.ldAAtBc) := ⟨rfl, (by decide : 1 ≤ 1), (by decide : 1 ≤ 3)⟩
theorem decBc : Statement (.decBc) := ⟨rfl, (by decide : 1 ≤ 1), (by decide : 1 ≤ 3)⟩
theorem incC : Statement (.incC) := ⟨rfl, (by decide : 1 ≤ 1), (by decide : 1 ≤ 3)⟩
theorem decC : Statement (.decC) := ⟨rfl, (by decide : 1 ≤ 1), (by decide : 1 ≤ 3)⟩
theorem ldCN (n : Byte) : Statement (.ldCN n) := ⟨rfl, (by decide : 1 ≤ 2), (by decide : 2 ≤ 3)⟩
theorem rrca : Statement (.rrca) := ⟨rfl, (by decide : 1 ≤ 1), (by decide : 1 ≤ 3)⟩
theorem stop : Statement (.stop) := ⟨rfl, (by decide : 1 ≤ 2), (by decide : 2 ≤ 3)⟩
theorem ldDeNn (nn : Word) : Statement (.ldDeNn nn) := ⟨rfl, (by decide : 1 ≤ 3), (by decide : 3 ≤ 3)⟩
theorem ldAtDeA : Statement (.ldAtDeA) := ⟨rfl, (by decide : 1 ≤ 1), (by decide : 1 ≤ 3)⟩
theorem incDe : Statement (.incDe) := ⟨rfl, (by decide : 1 ≤ 1), (by decide : 1 ≤ 3)⟩
theorem incD : Statement (.incD) := ⟨rfl, (by decide : 1 ≤ 1), (by decide : 1 ≤ 3)⟩
theorem decD : Statement (.decD) := ⟨rfl, (by decide : 1 ≤ 1), (by decide : 1 ≤ 3)⟩
theorem ldDN (n : Byte) : Statement (.ldDN n) := ⟨rfl, (by decide : 1 ≤ 2), (by decide : 2 ≤ 3)⟩
theorem rla : Statement (.rla) := ⟨rfl, (by decide : 1 ≤ 1), (by decide : 1 ≤ 3)⟩
theorem jrE (e : Byte) : Statement (.jrE e) := ⟨rfl, (by decide : 1 ≤ 2), (by decide : 2 ≤ 3)⟩
theorem addHlDe : Statement (.addHlDe) := ⟨rfl, (by decide : 1 ≤ 1), (by decide : 1 ≤ 3)⟩
theorem ldAAtDe : Statement (.ldAAtDe) := ⟨rfl, (by decide : 1 ≤ 1), (by decide : 1 ≤ 3)⟩
theorem decDe : Statement (.decDe) := ⟨rfl, (by decide : 1 ≤ 1), (by decide : 1 ≤ 3)⟩
theorem incE : Statement (.incE) := ⟨rfl, (by decide : 1 ≤ 1), (by decide : 1 ≤ 3)⟩
theorem decE : Statement (.decE) := ⟨rfl, (by decide : 1 ≤ 1), (by decide : 1 ≤ 3)⟩
theorem ldEN (n : Byte) : Statement (.ldEN n) := ⟨rfl, (by decide : 1 ≤ 2), (by decide : 2 ≤ 3)⟩
theorem rra : Statement (.rra) := ⟨rfl, (by decide : 1 ≤ 1), (by decide : 1 ≤ 3)⟩
theorem jrNzE (e : Byte) : Statement (.jrNzE e) := ⟨rfl, (by decide : 1 ≤ 2), (by decide : 2 ≤ 3)⟩
theorem ldHlNn (nn : Word) : Statement (.ldHlNn nn) := ⟨rfl, (by decide : 1 ≤ 3), (by decide : 3 ≤ 3)⟩
theorem ldAtHlIncA : Statement (.ldAtHlIncA) := ⟨rfl, (by decide : 1 ≤ 1), (by decide : 1 ≤ 3)⟩
theorem incHl : Statement (.incHl) := ⟨rfl, (by decide : 1 ≤ 1), (by decide : 1 ≤ 3)⟩
theorem incH : Statement (.incH) := ⟨rfl, (by decide : 1 ≤ 1), (by decide : 1 ≤ 3)⟩
theorem decH : Statement (.decH) := ⟨rfl, (by decide : 1 ≤ 1), (by decide : 1 ≤ 3)⟩
theorem ldHN (n : Byte) : Statement (.ldHN n) := ⟨rfl, (by decide : 1 ≤ 2), (by decide : 2 ≤ 3)⟩
theorem daa : Statement (.daa) := ⟨rfl, (by decide : 1 ≤ 1), (by decide : 1 ≤ 3)⟩
theorem jrZE (e : Byte) : Statement (.jrZE e) := ⟨rfl, (by decide : 1 ≤ 2), (by decide : 2 ≤ 3)⟩
theorem addHlHl : Statement (.addHlHl) := ⟨rfl, (by decide : 1 ≤ 1), (by decide : 1 ≤ 3)⟩
theorem ldAAtHlInc : Statement (.ldAAtHlInc) := ⟨rfl, (by decide : 1 ≤ 1), (by decide : 1 ≤ 3)⟩
theorem decHl : Statement (.decHl) := ⟨rfl, (by decide : 1 ≤ 1), (by decide : 1 ≤ 3)⟩
theorem incL : Statement (.incL) := ⟨rfl, (by decide : 1 ≤ 1), (by decide : 1 ≤ 3)⟩
theorem decL : Statement (.decL) := ⟨rfl, (by decide : 1 ≤ 1), (by decide : 1 ≤ 3)⟩
theorem ldLN (n : Byte) : Statement (.ldLN n) := ⟨rfl, (by decide : 1 ≤ 2), (by decide : 2 ≤ 3)⟩
theorem cpl : Statement (.cpl) := ⟨rfl, (by decide : 1 ≤ 1), (by decide : 1 ≤ 3)⟩
theorem jrNcE (e : Byte) : Statement (.jrNcE e) := ⟨rfl, (by decide : 1 ≤ 2), (by decide : 2 ≤ 3)⟩
theorem ldSpNn (nn : Word) : Statement (.ldSpNn nn) := ⟨rfl, (by decide : 1 ≤ 3), (by decide : 3 ≤ 3)⟩
theorem ldAtHlDecA : Statement (.ldAtHlDecA) := ⟨rfl, (by decide : 1 ≤ 1), (by decide : 1 ≤ 3)⟩
theorem incSp : Statement (.incSp) := ⟨rfl, (by decide : 1 ≤ 1), (by decide : 1 ≤ 3)⟩
theorem incAtHl : Statement (.incAtHl) := ⟨rfl, (by decide : 1 ≤ 1), (by decide : 1 ≤ 3)⟩
theorem decAtHl : Statement (.decAtHl) := ⟨rfl, (by decide : 1 ≤ 1), (by decide : 1 ≤ 3)⟩
theorem ldAtHlN (n : Byte) : Statement (.ldAtHlN n) := ⟨rfl, (by decide : 1 ≤ 2), (by decide : 2 ≤ 3)⟩
theorem scf : Statement (.scf) := ⟨rfl, (by decide : 1 ≤ 1), (by decide : 1 ≤ 3)⟩
theorem jrCE (e : Byte) : Statement (.jrCE e) := ⟨rfl, (by decide : 1 ≤ 2), (by decide : 2 ≤ 3)⟩
theorem addHlSp : Statement (.addHlSp) := ⟨rfl, (by decide : 1 ≤ 1), (by decide : 1 ≤ 3)⟩
theorem ldAAtHlDec : Statement (.ldAAtHlDec) := ⟨rfl, (by decide : 1 ≤ 1), (by decide : 1 ≤ 3)⟩
theorem decSp : Statement (.decSp) := ⟨rfl, (by decide : 1 ≤ 1), (by decide : 1 ≤ 3)⟩
theorem incA : Statement (.incA) := ⟨rfl, (by decide : 1 ≤ 1), (by decide : 1 ≤ 3)⟩
theorem decA : Statement (.decA) := ⟨rfl, (by decide : 1 ≤ 1), (by decide : 1 ≤ 3)⟩
theorem ldAN (n : Byte) : Statement (.ldAN n) := ⟨rfl, (by decide : 1 ≤ 2), (by decide : 2 ≤ 3)⟩
theorem ccf : Statement (.ccf) := ⟨rfl, (by decide : 1 ≤ 1), (by decide : 1 ≤ 3)⟩
theorem ldBB : Statement (.ldBB) := ⟨rfl, (by decide : 1 ≤ 1), (by decide : 1 ≤ 3)⟩
theorem ldBC : Statement (.ldBC) := ⟨rfl, (by decide : 1 ≤ 1), (by decide : 1 ≤ 3)⟩
theorem ldBD : Statement (.ldBD) := ⟨rfl, (by decide : 1 ≤ 1), (by decide : 1 ≤ 3)⟩
theorem ldBE : Statement (.ldBE) := ⟨rfl, (by decide : 1 ≤ 1), (by decide : 1 ≤ 3)⟩
theorem ldBH : Statement (.ldBH) := ⟨rfl, (by decide : 1 ≤ 1), (by decide : 1 ≤ 3)⟩
theorem ldBL : Statement (.ldBL) := ⟨rfl, (by decide : 1 ≤ 1), (by decide : 1 ≤ 3)⟩
theorem ldBAtHl : Statement (.ldBAtHl) := ⟨rfl, (by decide : 1 ≤ 1), (by decide : 1 ≤ 3)⟩
theorem ldBA : Statement (.ldBA) := ⟨rfl, (by decide : 1 ≤ 1), (by decide : 1 ≤ 3)⟩
theorem ldCB : Statement (.ldCB) := ⟨rfl, (by decide : 1 ≤ 1), (by decide : 1 ≤ 3)⟩
theorem ldCC : Statement (.ldCC) := ⟨rfl, (by decide : 1 ≤ 1), (by decide : 1 ≤ 3)⟩
theorem ldCD : Statement (.ldCD) := ⟨rfl, (by decide : 1 ≤ 1), (by decide : 1 ≤ 3)⟩
theorem ldCE : Statement (.ldCE) := ⟨rfl, (by decide : 1 ≤ 1), (by decide : 1 ≤ 3)⟩
theorem ldCH : Statement (.ldCH) := ⟨rfl, (by decide : 1 ≤ 1), (by decide : 1 ≤ 3)⟩
theorem ldCL : Statement (.ldCL) := ⟨rfl, (by decide : 1 ≤ 1), (by decide : 1 ≤ 3)⟩
theorem ldCAtHl : Statement (.ldCAtHl) := ⟨rfl, (by decide : 1 ≤ 1), (by decide : 1 ≤ 3)⟩
theorem ldCA : Statement (.ldCA) := ⟨rfl, (by decide : 1 ≤ 1), (by decide : 1 ≤ 3)⟩
theorem ldDB : Statement (.ldDB) := ⟨rfl, (by decide : 1 ≤ 1), (by decide : 1 ≤ 3)⟩
theorem ldDC : Statement (.ldDC) := ⟨rfl, (by decide : 1 ≤ 1), (by decide : 1 ≤ 3)⟩
theorem ldDD : Statement (.ldDD) := ⟨rfl, (by decide : 1 ≤ 1), (by decide : 1 ≤ 3)⟩
theorem ldDE : Statement (.ldDE) := ⟨rfl, (by decide : 1 ≤ 1), (by decide : 1 ≤ 3)⟩
theorem ldDH : Statement (.ldDH) := ⟨rfl, (by decide : 1 ≤ 1), (by decide : 1 ≤ 3)⟩
theorem ldDL : Statement (.ldDL) := ⟨rfl, (by decide : 1 ≤ 1), (by decide : 1 ≤ 3)⟩
theorem ldDAtHl : Statement (.ldDAtHl) := ⟨rfl, (by decide : 1 ≤ 1), (by decide : 1 ≤ 3)⟩
theorem ldDA : Statement (.ldDA) := ⟨rfl, (by decide : 1 ≤ 1), (by decide : 1 ≤ 3)⟩
theorem ldEB : Statement (.ldEB) := ⟨rfl, (by decide : 1 ≤ 1), (by decide : 1 ≤ 3)⟩
theorem ldEC : Statement (.ldEC) := ⟨rfl, (by decide : 1 ≤ 1), (by decide : 1 ≤ 3)⟩
theorem ldED : Statement (.ldED) := ⟨rfl, (by decide : 1 ≤ 1), (by decide : 1 ≤ 3)⟩
theorem ldEE : Statement (.ldEE) := ⟨rfl, (by decide : 1 ≤ 1), (by decide : 1 ≤ 3)⟩
theorem ldEH : Statement (.ldEH) := ⟨rfl, (by decide : 1 ≤ 1), (by decide : 1 ≤ 3)⟩
theorem ldEL : Statement (.ldEL) := ⟨rfl, (by decide : 1 ≤ 1), (by decide : 1 ≤ 3)⟩
theorem ldEAtHl : Statement (.ldEAtHl) := ⟨rfl, (by decide : 1 ≤ 1), (by decide : 1 ≤ 3)⟩
theorem ldEA : Statement (.ldEA) := ⟨rfl, (by decide : 1 ≤ 1), (by decide : 1 ≤ 3)⟩
theorem ldHB : Statement (.ldHB) := ⟨rfl, (by decide : 1 ≤ 1), (by decide : 1 ≤ 3)⟩
theorem ldHC : Statement (.ldHC) := ⟨rfl, (by decide : 1 ≤ 1), (by decide : 1 ≤ 3)⟩
theorem ldHD : Statement (.ldHD) := ⟨rfl, (by decide : 1 ≤ 1), (by decide : 1 ≤ 3)⟩
theorem ldHE : Statement (.ldHE) := ⟨rfl, (by decide : 1 ≤ 1), (by decide : 1 ≤ 3)⟩
theorem ldHH : Statement (.ldHH) := ⟨rfl, (by decide : 1 ≤ 1), (by decide : 1 ≤ 3)⟩
theorem ldHL : Statement (.ldHL) := ⟨rfl, (by decide : 1 ≤ 1), (by decide : 1 ≤ 3)⟩
theorem ldHAtHl : Statement (.ldHAtHl) := ⟨rfl, (by decide : 1 ≤ 1), (by decide : 1 ≤ 3)⟩
theorem ldHA : Statement (.ldHA) := ⟨rfl, (by decide : 1 ≤ 1), (by decide : 1 ≤ 3)⟩
theorem ldLB : Statement (.ldLB) := ⟨rfl, (by decide : 1 ≤ 1), (by decide : 1 ≤ 3)⟩
theorem ldLC : Statement (.ldLC) := ⟨rfl, (by decide : 1 ≤ 1), (by decide : 1 ≤ 3)⟩
theorem ldLD : Statement (.ldLD) := ⟨rfl, (by decide : 1 ≤ 1), (by decide : 1 ≤ 3)⟩
theorem ldLE : Statement (.ldLE) := ⟨rfl, (by decide : 1 ≤ 1), (by decide : 1 ≤ 3)⟩
theorem ldLH : Statement (.ldLH) := ⟨rfl, (by decide : 1 ≤ 1), (by decide : 1 ≤ 3)⟩
theorem ldLL : Statement (.ldLL) := ⟨rfl, (by decide : 1 ≤ 1), (by decide : 1 ≤ 3)⟩
theorem ldLAtHl : Statement (.ldLAtHl) := ⟨rfl, (by decide : 1 ≤ 1), (by decide : 1 ≤ 3)⟩
theorem ldLA : Statement (.ldLA) := ⟨rfl, (by decide : 1 ≤ 1), (by decide : 1 ≤ 3)⟩
theorem ldAtHlB : Statement (.ldAtHlB) := ⟨rfl, (by decide : 1 ≤ 1), (by decide : 1 ≤ 3)⟩
theorem ldAtHlC : Statement (.ldAtHlC) := ⟨rfl, (by decide : 1 ≤ 1), (by decide : 1 ≤ 3)⟩
theorem ldAtHlD : Statement (.ldAtHlD) := ⟨rfl, (by decide : 1 ≤ 1), (by decide : 1 ≤ 3)⟩
theorem ldAtHlE : Statement (.ldAtHlE) := ⟨rfl, (by decide : 1 ≤ 1), (by decide : 1 ≤ 3)⟩
theorem ldAtHlH : Statement (.ldAtHlH) := ⟨rfl, (by decide : 1 ≤ 1), (by decide : 1 ≤ 3)⟩
theorem ldAtHlL : Statement (.ldAtHlL) := ⟨rfl, (by decide : 1 ≤ 1), (by decide : 1 ≤ 3)⟩
theorem halt : Statement (.halt) := ⟨rfl, (by decide : 1 ≤ 1), (by decide : 1 ≤ 3)⟩
theorem ldAtHlA : Statement (.ldAtHlA) := ⟨rfl, (by decide : 1 ≤ 1), (by decide : 1 ≤ 3)⟩
theorem ldAB : Statement (.ldAB) := ⟨rfl, (by decide : 1 ≤ 1), (by decide : 1 ≤ 3)⟩
theorem ldAC : Statement (.ldAC) := ⟨rfl, (by decide : 1 ≤ 1), (by decide : 1 ≤ 3)⟩
theorem ldAD : Statement (.ldAD) := ⟨rfl, (by decide : 1 ≤ 1), (by decide : 1 ≤ 3)⟩
theorem ldAE : Statement (.ldAE) := ⟨rfl, (by decide : 1 ≤ 1), (by decide : 1 ≤ 3)⟩
theorem ldAH : Statement (.ldAH) := ⟨rfl, (by decide : 1 ≤ 1), (by decide : 1 ≤ 3)⟩
theorem ldAL : Statement (.ldAL) := ⟨rfl, (by decide : 1 ≤ 1), (by decide : 1 ≤ 3)⟩
theorem ldAAtHl : Statement (.ldAAtHl) := ⟨rfl, (by decide : 1 ≤ 1), (by decide : 1 ≤ 3)⟩
theorem ldAA : Statement (.ldAA) := ⟨rfl, (by decide : 1 ≤ 1), (by decide : 1 ≤ 3)⟩
theorem addAB : Statement (.addAB) := ⟨rfl, (by decide : 1 ≤ 1), (by decide : 1 ≤ 3)⟩
theorem addAC : Statement (.addAC) := ⟨rfl, (by decide : 1 ≤ 1), (by decide : 1 ≤ 3)⟩
theorem addAD : Statement (.addAD) := ⟨rfl, (by decide : 1 ≤ 1), (by decide : 1 ≤ 3)⟩
theorem addAE : Statement (.addAE) := ⟨rfl, (by decide : 1 ≤ 1), (by decide : 1 ≤ 3)⟩
theorem addAH : Statement (.addAH) := ⟨rfl, (by decide : 1 ≤ 1), (by decide : 1 ≤ 3)⟩
theorem addAL : Statement (.addAL) := ⟨rfl, (by decide : 1 ≤ 1), (by decide : 1 ≤ 3)⟩
theorem addAAtHl : Statement (.addAAtHl) := ⟨rfl, (by decide : 1 ≤ 1), (by decide : 1 ≤ 3)⟩
theorem addAA : Statement (.addAA) := ⟨rfl, (by decide : 1 ≤ 1), (by decide : 1 ≤ 3)⟩
theorem adcAB : Statement (.adcAB) := ⟨rfl, (by decide : 1 ≤ 1), (by decide : 1 ≤ 3)⟩
theorem adcAC : Statement (.adcAC) := ⟨rfl, (by decide : 1 ≤ 1), (by decide : 1 ≤ 3)⟩
theorem adcAD : Statement (.adcAD) := ⟨rfl, (by decide : 1 ≤ 1), (by decide : 1 ≤ 3)⟩
theorem adcAE : Statement (.adcAE) := ⟨rfl, (by decide : 1 ≤ 1), (by decide : 1 ≤ 3)⟩
theorem adcAH : Statement (.adcAH) := ⟨rfl, (by decide : 1 ≤ 1), (by decide : 1 ≤ 3)⟩
theorem adcAL : Statement (.adcAL) := ⟨rfl, (by decide : 1 ≤ 1), (by decide : 1 ≤ 3)⟩
theorem adcAAtHl : Statement (.adcAAtHl) := ⟨rfl, (by decide : 1 ≤ 1), (by decide : 1 ≤ 3)⟩
theorem adcAA : Statement (.adcAA) := ⟨rfl, (by decide : 1 ≤ 1), (by decide : 1 ≤ 3)⟩
theorem subB : Statement (.subB) := ⟨rfl, (by decide : 1 ≤ 1), (by decide : 1 ≤ 3)⟩
theorem subC : Statement (.subC) := ⟨rfl, (by decide : 1 ≤ 1), (by decide : 1 ≤ 3)⟩
theorem subD : Statement (.subD) := ⟨rfl, (by decide : 1 ≤ 1), (by decide : 1 ≤ 3)⟩
theorem subE : Statement (.subE) := ⟨rfl, (by decide : 1 ≤ 1), (by decide : 1 ≤ 3)⟩
theorem subH : Statement (.subH) := ⟨rfl, (by decide : 1 ≤ 1), (by decide : 1 ≤ 3)⟩
theorem subL : Statement (.subL) := ⟨rfl, (by decide : 1 ≤ 1), (by decide : 1 ≤ 3)⟩
theorem subAtHl : Statement (.subAtHl) := ⟨rfl, (by decide : 1 ≤ 1), (by decide : 1 ≤ 3)⟩
theorem subA : Statement (.subA) := ⟨rfl, (by decide : 1 ≤ 1), (by decide : 1 ≤ 3)⟩
theorem sbcAB : Statement (.sbcAB) := ⟨rfl, (by decide : 1 ≤ 1), (by decide : 1 ≤ 3)⟩
theorem sbcAC : Statement (.sbcAC) := ⟨rfl, (by decide : 1 ≤ 1), (by decide : 1 ≤ 3)⟩
theorem sbcAD : Statement (.sbcAD) := ⟨rfl, (by decide : 1 ≤ 1), (by decide : 1 ≤ 3)⟩
theorem sbcAE : Statement (.sbcAE) := ⟨rfl, (by decide : 1 ≤ 1), (by decide : 1 ≤ 3)⟩
theorem sbcAH : Statement (.sbcAH) := ⟨rfl, (by decide : 1 ≤ 1), (by decide : 1 ≤ 3)⟩
theorem sbcAL : Statement (.sbcAL) := ⟨rfl, (by decide : 1 ≤ 1), (by decide : 1 ≤ 3)⟩
theorem sbcAAtHl : Statement (.sbcAAtHl) := ⟨rfl, (by decide : 1 ≤ 1), (by decide : 1 ≤ 3)⟩
theorem sbcAA : Statement (.sbcAA) := ⟨rfl, (by decide : 1 ≤ 1), (by decide : 1 ≤ 3)⟩
theorem andB : Statement (.andB) := ⟨rfl, (by decide : 1 ≤ 1), (by decide : 1 ≤ 3)⟩
theorem andC : Statement (.andC) := ⟨rfl, (by decide : 1 ≤ 1), (by decide : 1 ≤ 3)⟩
theorem andD : Statement (.andD) := ⟨rfl, (by decide : 1 ≤ 1), (by decide : 1 ≤ 3)⟩
theorem andE : Statement (.andE) := ⟨rfl, (by decide : 1 ≤ 1), (by decide : 1 ≤ 3)⟩
theorem andH : Statement (.andH) := ⟨rfl, (by decide : 1 ≤ 1), (by decide : 1 ≤ 3)⟩
theorem andL : Statement (.andL) := ⟨rfl, (by decide : 1 ≤ 1), (by decide : 1 ≤ 3)⟩
theorem andAtHl : Statement (.andAtHl) := ⟨rfl, (by decide : 1 ≤ 1), (by decide : 1 ≤ 3)⟩
theorem andA : Statement (.andA) := ⟨rfl, (by decide : 1 ≤ 1), (by decide : 1 ≤ 3)⟩
theorem xorB : Statement (.xorB) := ⟨rfl, (by decide : 1 ≤ 1), (by decide : 1 ≤ 3)⟩
theorem xorC : Statement (.xorC) := ⟨rfl, (by decide : 1 ≤ 1), (by decide : 1 ≤ 3)⟩
theorem xorD : Statement (.xorD) := ⟨rfl, (by decide : 1 ≤ 1), (by decide : 1 ≤ 3)⟩
theorem xorE : Statement (.xorE) := ⟨rfl, (by decide : 1 ≤ 1), (by decide : 1 ≤ 3)⟩
theorem xorH : Statement (.xorH) := ⟨rfl, (by decide : 1 ≤ 1), (by decide : 1 ≤ 3)⟩
theorem xorL : Statement (.xorL) := ⟨rfl, (by decide : 1 ≤ 1), (by decide : 1 ≤ 3)⟩
theorem xorAtHl : Statement (.xorAtHl) := ⟨rfl, (by decide : 1 ≤ 1), (by decide : 1 ≤ 3)⟩
theorem xorA : Statement (.xorA) := ⟨rfl, (by decide : 1 ≤ 1), (by decide : 1 ≤ 3)⟩
theorem orB : Statement (.orB) := ⟨rfl, (by decide : 1 ≤ 1), (by decide : 1 ≤ 3)⟩
theorem orC : Statement (.orC) := ⟨rfl, (by decide : 1 ≤ 1), (by decide : 1 ≤ 3)⟩
theorem orD : Statement (.orD) := ⟨rfl, (by decide : 1 ≤ 1), (by decide : 1 ≤ 3)⟩
theorem orE : Statement (.orE) := ⟨rfl, (by decide : 1 ≤ 1), (by decide : 1 ≤ 3)⟩
theorem orH : Statement (.orH) := ⟨rfl, (by decide : 1 ≤ 1), (by decide : 1 ≤ 3)⟩
theorem orL : Statement (.orL) := ⟨rfl, (by decide : 1 ≤ 1), (by decide : 1 ≤ 3)⟩
theorem orAtHl : Statement (.orAtHl) := ⟨rfl, (by decide : 1 ≤ 1), (by decide : 1 ≤ 3)⟩
theorem orA : Statement (.orA) := ⟨rfl, (by decide : 1 ≤ 1), (by decide : 1 ≤ 3)⟩
theorem cpB : Statement (.cpB) := ⟨rfl, (by decide : 1 ≤ 1), (by decide : 1 ≤ 3)⟩
theorem cpC : Statement (.cpC) := ⟨rfl, (by decide : 1 ≤ 1), (by decide : 1 ≤ 3)⟩
theorem cpD : Statement (.cpD) := ⟨rfl, (by decide : 1 ≤ 1), (by decide : 1 ≤ 3)⟩
theorem cpE : Statement (.cpE) := ⟨rfl, (by decide : 1 ≤ 1), (by decide : 1 ≤ 3)⟩
theorem cpH : Statement (.cpH) := ⟨rfl, (by decide : 1 ≤ 1), (by decide : 1 ≤ 3)⟩
theorem cpL : Statement (.cpL) := ⟨rfl, (by decide : 1 ≤ 1), (by decide : 1 ≤ 3)⟩
theorem cpAtHl : Statement (.cpAtHl) := ⟨rfl, (by decide : 1 ≤ 1), (by decide : 1 ≤ 3)⟩
theorem cpA : Statement (.cpA) := ⟨rfl, (by decide : 1 ≤ 1), (by decide : 1 ≤ 3)⟩
theorem retNz : Statement (.retNz) := ⟨rfl, (by decide : 1 ≤ 1), (by decide : 1 ≤ 3)⟩
theorem popBc : Statement (.popBc) := ⟨rfl, (by decide : 1 ≤ 1), (by decide : 1 ≤ 3)⟩
theorem jpNzNn (nn : Word) : Statement (.jpNzNn nn) := ⟨rfl, (by decide : 1 ≤ 3), (by decide : 3 ≤ 3)⟩
theorem jpNn (nn : Word) : Statement (.jpNn nn) := ⟨rfl, (by decide : 1 ≤ 3), (by decide : 3 ≤ 3)⟩
theorem callNzNn (nn : Word) : Statement (.callNzNn nn) := ⟨rfl, (by decide : 1 ≤ 3), (by decide : 3 ≤ 3)⟩
theorem pushBc : Statement (.pushBc) := ⟨rfl, (by decide : 1 ≤ 1), (by decide : 1 ≤ 3)⟩
theorem addAN (n : Byte) : Statement (.addAN n) := ⟨rfl, (by decide : 1 ≤ 2), (by decide : 2 ≤ 3)⟩
theorem rst00 : Statement (.rst00) := ⟨rfl, (by decide : 1 ≤ 1), (by decide : 1 ≤ 3)⟩
theorem retZ : Statement (.retZ) := ⟨rfl, (by decide : 1 ≤ 1), (by decide : 1 ≤ 3)⟩
theorem ret : Statement (.ret) := ⟨rfl, (by decide : 1 ≤ 1), (by decide : 1 ≤ 3)⟩
theorem jpZNn (nn : Word) : Statement (.jpZNn nn) := ⟨rfl, (by decide : 1 ≤ 3), (by decide : 3 ≤ 3)⟩
theorem prefixCb (op2 : Byte) : Statement (.prefixCb op2) := ⟨rfl, (by decide : 1 ≤ 2), (by decide : 2 ≤ 3)⟩
theorem callZNn (nn : Word) : Statement (.callZNn nn) := ⟨rfl, (by decide : 1 ≤ 3), (by decide : 3 ≤ 3)⟩
theorem callNn (nn : Word) : Statement (.callNn nn) := ⟨rfl, (by decide : 1 ≤ 3), (by decide : 3 ≤ 3)⟩
theorem adcAN (n : Byte) : Statement (.adcAN n) := ⟨rfl, (by decide : 1 ≤ 2), (by decide : 2 ≤ 3)⟩
theorem rst08 : Statement (.rst08) := ⟨rfl, (by decide : 1 ≤ 1), (by decide : 1 ≤ 3)⟩
theorem retNc : Statement (.retNc) := ⟨rfl, (by decide : 1 ≤ 1), (by decide : 1 ≤ 3)⟩
theorem popDe : Statement (.popDe) := ⟨rfl, (by decide : 1 ≤ 1), (by decide : 1 ≤ 3)⟩
theorem jpNcNn (nn : Word) : Statement (.jpNcNn nn) := ⟨rfl, (by decide : 1 ≤ 3), (by decide : 3 ≤ 3)⟩
theorem illegalD3 : Statement (.illegalD3) := ⟨rfl, (by decide : 1 ≤ 1), (by decide : 1 ≤ 3)⟩
theorem callNcNn (nn : Word) : Statement (.callNcNn nn) := ⟨rfl, (by decide : 1 ≤ 3), (by decide : 3 ≤ 3)⟩
theorem pushDe : Statement (.pushDe) := ⟨rfl, (by decide : 1 ≤ 1), (by decide : 1 ≤ 3)⟩
theorem subN (n : Byte) : Statement (.subN n) := ⟨rfl, (by decide : 1 ≤ 2), (by decide : 2 ≤ 3)⟩
theorem rst10 : Statement (.rst10) := ⟨rfl, (by decide : 1 ≤ 1), (by decide : 1 ≤ 3)⟩
theorem retC : Statement (.retC) := ⟨rfl, (by decide : 1 ≤ 1), (by decide : 1 ≤ 3)⟩
theorem reti : Statement (.reti) := ⟨rfl, (by decide : 1 ≤ 1), (by decide : 1 ≤ 3)⟩
theorem jpCNn (nn : Word) : Statement (.jpCNn nn) := ⟨rfl, (by decide : 1 ≤ 3), (by decide : 3 ≤ 3)⟩
theorem illegalDB : Statement (.illegalDB) := ⟨rfl, (by decide : 1 ≤ 1), (by decide : 1 ≤ 3)⟩
theorem callCNn (nn : Word) : Statement (.callCNn nn) := ⟨rfl, (by decide : 1 ≤ 3), (by decide : 3 ≤ 3)⟩
theorem illegalDD : Statement (.illegalDD) := ⟨rfl, (by decide : 1 ≤ 1), (by decide : 1 ≤ 3)⟩
theorem sbcAN (n : Byte) : Statement (.sbcAN n) := ⟨rfl, (by decide : 1 ≤ 2), (by decide : 2 ≤ 3)⟩
theorem rst18 : Statement (.rst18) := ⟨rfl, (by decide : 1 ≤ 1), (by decide : 1 ≤ 3)⟩
theorem ldhAtNA (n : Byte) : Statement (.ldhAtNA n) := ⟨rfl, (by decide : 1 ≤ 2), (by decide : 2 ≤ 3)⟩
theorem popHl : Statement (.popHl) := ⟨rfl, (by decide : 1 ≤ 1), (by decide : 1 ≤ 3)⟩
theorem ldhAtCA : Statement (.ldhAtCA) := ⟨rfl, (by decide : 1 ≤ 1), (by decide : 1 ≤ 3)⟩
theorem illegalE3 : Statement (.illegalE3) := ⟨rfl, (by decide : 1 ≤ 1), (by decide : 1 ≤ 3)⟩
theorem illegalE4 : Statement (.illegalE4) := ⟨rfl, (by decide : 1 ≤ 1), (by decide : 1 ≤ 3)⟩
theorem pushHl : Statement (.pushHl) := ⟨rfl, (by decide : 1 ≤ 1), (by decide : 1 ≤ 3)⟩
theorem andN (n : Byte) : Statement (.andN n) := ⟨rfl, (by decide : 1 ≤ 2), (by decide : 2 ≤ 3)⟩
theorem rst20 : Statement (.rst20) := ⟨rfl, (by decide : 1 ≤ 1), (by decide : 1 ≤ 3)⟩
theorem addSpE (e : Byte) : Statement (.addSpE e) := ⟨rfl, (by decide : 1 ≤ 2), (by decide : 2 ≤ 3)⟩
theorem jpHl : Statement (.jpHl) := ⟨rfl, (by decide : 1 ≤ 1), (by decide : 1 ≤ 3)⟩
theorem ldAtNnA (nn : Word) : Statement (.ldAtNnA nn) := ⟨rfl, (by decide : 1 ≤ 3), (by decide : 3 ≤ 3)⟩
theorem illegalEB : Statement (.illegalEB) := ⟨rfl, (by decide : 1 ≤ 1), (by decide : 1 ≤ 3)⟩
theorem illegalEC : Statement (.illegalEC) := ⟨rfl, (by decide : 1 ≤ 1), (by decide : 1 ≤ 3)⟩
theorem illegalED : Statement (.illegalED) := ⟨rfl, (by decide : 1 ≤ 1), (by decide : 1 ≤ 3)⟩
theorem xorN (n : Byte) : Statement (.xorN n) := ⟨rfl, (by decide : 1 ≤ 2), (by decide : 2 ≤ 3)⟩
theorem rst28 : Statement (.rst28) := ⟨rfl, (by decide : 1 ≤ 1), (by decide : 1 ≤ 3)⟩
theorem ldhAAtN (n : Byte) : Statement (.ldhAAtN n) := ⟨rfl, (by decide : 1 ≤ 2), (by decide : 2 ≤ 3)⟩
theorem popAf : Statement (.popAf) := ⟨rfl, (by decide : 1 ≤ 1), (by decide : 1 ≤ 3)⟩
theorem ldhAAtC : Statement (.ldhAAtC) := ⟨rfl, (by decide : 1 ≤ 1), (by decide : 1 ≤ 3)⟩
theorem di : Statement (.di) := ⟨rfl, (by decide : 1 ≤ 1), (by decide : 1 ≤ 3)⟩
theorem illegalF4 : Statement (.illegalF4) := ⟨rfl, (by decide : 1 ≤ 1), (by decide : 1 ≤ 3)⟩
theorem pushAf : Statement (.pushAf) := ⟨rfl, (by decide : 1 ≤ 1), (by decide : 1 ≤ 3)⟩
theorem orN (n : Byte) : Statement (.orN n) := ⟨rfl, (by decide : 1 ≤ 2), (by decide : 2 ≤ 3)⟩
theorem rst30 : Statement (.rst30) := ⟨rfl, (by decide : 1 ≤ 1), (by decide : 1 ≤ 3)⟩
theorem ldHlSpE (e : Byte) : Statement (.ldHlSpE e) := ⟨rfl, (by decide : 1 ≤ 2), (by decide : 2 ≤ 3)⟩
theorem ldSpHl : Statement (.ldSpHl) := ⟨rfl, (by decide : 1 ≤ 1), (by decide : 1 ≤ 3)⟩
theorem ldAAtNn (nn : Word) : Statement (.ldAAtNn nn) := ⟨rfl, (by decide : 1 ≤ 3), (by decide : 3 ≤ 3)⟩
theorem ei : Statement (.ei) := ⟨rfl, (by decide : 1 ≤ 1), (by decide : 1 ≤ 3)⟩
theorem illegalFC : Statement (.illegalFC) := ⟨rfl, (by decide : 1 ≤ 1), (by decide : 1 ≤ 3)⟩
theorem illegalFD : Statement (.illegalFD) := ⟨rfl, (by decide : 1 ≤ 1), (by decide : 1 ≤ 3)⟩
theorem cpN (n : Byte) : Statement (.cpN n) := ⟨rfl, (by decide : 1 ≤ 2), (by decide : 2 ≤ 3)⟩
theorem rst38 : Statement (.rst38) := ⟨rfl, (by decide : 1 ≤ 1), (by decide : 1 ≤ 3)⟩
theorem rlcB : Statement (.rlcB) := ⟨rfl, (by decide : 1 ≤ 2), (by decide : 2 ≤ 3)⟩
theorem rlcC : Statement (.rlcC) := ⟨rfl, (by decide : 1 ≤ 2), (by decide : 2 ≤ 3)⟩
theorem rlcD : Statement (.rlcD) := ⟨rfl, (by decide : 1 ≤ 2), (by decide : 2 ≤ 3)⟩
theorem rlcE : Statement (.rlcE) := ⟨rfl, (by decide : 1 ≤ 2), (by decide : 2 ≤ 3)⟩
theorem rlcH : Statement (.rlcH) := ⟨rfl, (by decide : 1 ≤ 2), (by decide : 2 ≤ 3)⟩
theorem rlcL : Statement (.rlcL) := ⟨rfl, (by decide : 1 ≤ 2), (by decide : 2 ≤ 3)⟩
theorem rlcAtHl : Statement (.rlcAtHl) := ⟨rfl, (by decide : 1 ≤ 2), (by decide : 2 ≤ 3)⟩
theorem rlcA : Statement (.rlcA) := ⟨rfl, (by decide : 1 ≤ 2), (by decide : 2 ≤ 3)⟩
theorem rrcB : Statement (.rrcB) := ⟨rfl, (by decide : 1 ≤ 2), (by decide : 2 ≤ 3)⟩
theorem rrcC : Statement (.rrcC) := ⟨rfl, (by decide : 1 ≤ 2), (by decide : 2 ≤ 3)⟩
theorem rrcD : Statement (.rrcD) := ⟨rfl, (by decide : 1 ≤ 2), (by decide : 2 ≤ 3)⟩
theorem rrcE : Statement (.rrcE) := ⟨rfl, (by decide : 1 ≤ 2), (by decide : 2 ≤ 3)⟩
theorem rrcH : Statement (.rrcH) := ⟨rfl, (by decide : 1 ≤ 2), (by decide : 2 ≤ 3)⟩
theorem rrcL : Statement (.rrcL) := ⟨rfl, (by decide : 1 ≤ 2), (by decide : 2 ≤ 3)⟩
theorem rrcAtHl : Statement (.rrcAtHl) := ⟨rfl, (by decide : 1 ≤ 2), (by decide : 2 ≤ 3)⟩
theorem rrcA : Statement (.rrcA) := ⟨rfl, (by decide : 1 ≤ 2), (by decide : 2 ≤ 3)⟩
theorem rlB : Statement (.rlB) := ⟨rfl, (by decide : 1 ≤ 2), (by decide : 2 ≤ 3)⟩
theorem rlC : Statement (.rlC) := ⟨rfl, (by decide : 1 ≤ 2), (by decide : 2 ≤ 3)⟩
theorem rlD : Statement (.rlD) := ⟨rfl, (by decide : 1 ≤ 2), (by decide : 2 ≤ 3)⟩
theorem rlE : Statement (.rlE) := ⟨rfl, (by decide : 1 ≤ 2), (by decide : 2 ≤ 3)⟩
theorem rlH : Statement (.rlH) := ⟨rfl, (by decide : 1 ≤ 2), (by decide : 2 ≤ 3)⟩
theorem rlL : Statement (.rlL) := ⟨rfl, (by decide : 1 ≤ 2), (by decide : 2 ≤ 3)⟩
theorem rlAtHl : Statement (.rlAtHl) := ⟨rfl, (by decide : 1 ≤ 2), (by decide : 2 ≤ 3)⟩
theorem rlA : Statement (.rlA) := ⟨rfl, (by decide : 1 ≤ 2), (by decide : 2 ≤ 3)⟩
theorem rrB : Statement (.rrB) := ⟨rfl, (by decide : 1 ≤ 2), (by decide : 2 ≤ 3)⟩
theorem rrC : Statement (.rrC) := ⟨rfl, (by decide : 1 ≤ 2), (by decide : 2 ≤ 3)⟩
theorem rrD : Statement (.rrD) := ⟨rfl, (by decide : 1 ≤ 2), (by decide : 2 ≤ 3)⟩
theorem rrE : Statement (.rrE) := ⟨rfl, (by decide : 1 ≤ 2), (by decide : 2 ≤ 3)⟩
theorem rrH : Statement (.rrH) := ⟨rfl, (by decide : 1 ≤ 2), (by decide : 2 ≤ 3)⟩
theorem rrL : Statement (.rrL) := ⟨rfl, (by decide : 1 ≤ 2), (by decide : 2 ≤ 3)⟩
theorem rrAtHl : Statement (.rrAtHl) := ⟨rfl, (by decide : 1 ≤ 2), (by decide : 2 ≤ 3)⟩
theorem rrA : Statement (.rrA) := ⟨rfl, (by decide : 1 ≤ 2), (by decide : 2 ≤ 3)⟩
theorem slaB : Statement (.slaB) := ⟨rfl, (by decide : 1 ≤ 2), (by decide : 2 ≤ 3)⟩
theorem slaC : Statement (.slaC) := ⟨rfl, (by decide : 1 ≤ 2), (by decide : 2 ≤ 3)⟩
theorem slaD : Statement (.slaD) := ⟨rfl, (by decide : 1 ≤ 2), (by decide : 2 ≤ 3)⟩
theorem slaE : Statement (.slaE) := ⟨rfl, (by decide : 1 ≤ 2), (by decide : 2 ≤ 3)⟩
theorem slaH : Statement (.slaH) := ⟨rfl, (by decide : 1 ≤ 2), (by decide : 2 ≤ 3)⟩
theorem slaL : Statement (.slaL) := ⟨rfl, (by decide : 1 ≤ 2), (by decide : 2 ≤ 3)⟩
theorem slaAtHl : Statement (.slaAtHl) := ⟨rfl, (by decide : 1 ≤ 2), (by decide : 2 ≤ 3)⟩
theorem slaA : Statement (.slaA) := ⟨rfl, (by decide : 1 ≤ 2), (by decide : 2 ≤ 3)⟩
theorem sraB : Statement (.sraB) := ⟨rfl, (by decide : 1 ≤ 2), (by decide : 2 ≤ 3)⟩
theorem sraC : Statement (.sraC) := ⟨rfl, (by decide : 1 ≤ 2), (by decide : 2 ≤ 3)⟩
theorem sraD : Statement (.sraD) := ⟨rfl, (by decide : 1 ≤ 2), (by decide : 2 ≤ 3)⟩
theorem sraE : Statement (.sraE) := ⟨rfl, (by decide : 1 ≤ 2), (by decide : 2 ≤ 3)⟩
theorem sraH : Statement (.sraH) := ⟨rfl, (by decide : 1 ≤ 2), (by decide : 2 ≤ 3)⟩
theorem sraL : Statement (.sraL) := ⟨rfl, (by decide : 1 ≤ 2), (by decide : 2 ≤ 3)⟩
theorem sraAtHl : Statement (.sraAtHl) := ⟨rfl, (by decide : 1 ≤ 2), (by decide : 2 ≤ 3)⟩
theorem sraA : Statement (.sraA) := ⟨rfl, (by decide : 1 ≤ 2), (by decide : 2 ≤ 3)⟩
theorem swapB : Statement (.swapB) := ⟨rfl, (by decide : 1 ≤ 2), (by decide : 2 ≤ 3)⟩
theorem swapC : Statement (.swapC) := ⟨rfl, (by decide : 1 ≤ 2), (by decide : 2 ≤ 3)⟩
theorem swapD : Statement (.swapD) := ⟨rfl, (by decide : 1 ≤ 2), (by decide : 2 ≤ 3)⟩
theorem swapE : Statement (.swapE) := ⟨rfl, (by decide : 1 ≤ 2), (by decide : 2 ≤ 3)⟩
theorem swapH : Statement (.swapH) := ⟨rfl, (by decide : 1 ≤ 2), (by decide : 2 ≤ 3)⟩
theorem swapL : Statement (.swapL) := ⟨rfl, (by decide : 1 ≤ 2), (by decide : 2 ≤ 3)⟩
theorem swapAtHl : Statement (.swapAtHl) := ⟨rfl, (by decide : 1 ≤ 2), (by decide : 2 ≤ 3)⟩
theorem swapA : Statement (.swapA) := ⟨rfl, (by decide : 1 ≤ 2), (by decide : 2 ≤ 3)⟩
theorem srlB : Statement (.srlB) := ⟨rfl, (by decide : 1 ≤ 2), (by decide : 2 ≤ 3)⟩
theorem srlC : Statement (.srlC) := ⟨rfl, (by decide : 1 ≤ 2), (by decide : 2 ≤ 3)⟩
theorem srlD : Statement (.srlD) := ⟨rfl, (by decide : 1 ≤ 2), (by decide : 2 ≤ 3)⟩
theorem srlE : Statement (.srlE) := ⟨rfl, (by decide : 1 ≤ 2), (by decide : 2 ≤ 3)⟩
theorem srlH : Statement (.srlH) := ⟨rfl, (by decide : 1 ≤ 2), (by decide : 2 ≤ 3)⟩
theorem srlL : Statement (.srlL) := ⟨rfl, (by decide : 1 ≤ 2), (by decide : 2 ≤ 3)⟩
theorem srlAtHl : Statement (.srlAtHl) := ⟨rfl, (by decide : 1 ≤ 2), (by decide : 2 ≤ 3)⟩
theorem srlA : Statement (.srlA) := ⟨rfl, (by decide : 1 ≤ 2), (by decide : 2 ≤ 3)⟩
theorem bit0B : Statement (.bit0B) := ⟨rfl, (by decide : 1 ≤ 2), (by decide : 2 ≤ 3)⟩
theorem bit0C : Statement (.bit0C) := ⟨rfl, (by decide : 1 ≤ 2), (by decide : 2 ≤ 3)⟩
theorem bit0D : Statement (.bit0D) := ⟨rfl, (by decide : 1 ≤ 2), (by decide : 2 ≤ 3)⟩
theorem bit0E : Statement (.bit0E) := ⟨rfl, (by decide : 1 ≤ 2), (by decide : 2 ≤ 3)⟩
theorem bit0H : Statement (.bit0H) := ⟨rfl, (by decide : 1 ≤ 2), (by decide : 2 ≤ 3)⟩
theorem bit0L : Statement (.bit0L) := ⟨rfl, (by decide : 1 ≤ 2), (by decide : 2 ≤ 3)⟩
theorem bit0AtHl : Statement (.bit0AtHl) := ⟨rfl, (by decide : 1 ≤ 2), (by decide : 2 ≤ 3)⟩
theorem bit0A : Statement (.bit0A) := ⟨rfl, (by decide : 1 ≤ 2), (by decide : 2 ≤ 3)⟩
theorem bit1B : Statement (.bit1B) := ⟨rfl, (by decide : 1 ≤ 2), (by decide : 2 ≤ 3)⟩
theorem bit1C : Statement (.bit1C) := ⟨rfl, (by decide : 1 ≤ 2), (by decide : 2 ≤ 3)⟩
theorem bit1D : Statement (.bit1D) := ⟨rfl, (by decide : 1 ≤ 2), (by decide : 2 ≤ 3)⟩
theorem bit1E : Statement (.bit1E) := ⟨rfl, (by decide : 1 ≤ 2), (by decide : 2 ≤ 3)⟩
theorem bit1H : Statement (.bit1H) := ⟨rfl, (by decide : 1 ≤ 2), (by decide : 2 ≤ 3)⟩
theorem bit1L : Statement (.bit1L) := ⟨rfl, (by decide : 1 ≤ 2), (by decide : 2 ≤ 3)⟩
theorem bit1AtHl : Statement (.bit1AtHl) := ⟨rfl, (by decide : 1 ≤ 2), (by decide : 2 ≤ 3)⟩
theorem bit1A : Statement (.bit1A) := ⟨rfl, (by decide : 1 ≤ 2), (by decide : 2 ≤ 3)⟩
theorem bit2B : Statement (.bit2B) := ⟨rfl, (by decide : 1 ≤ 2), (by decide : 2 ≤ 3)⟩
theorem bit2C : Statement (.bit2C) := ⟨rfl, (by decide : 1 ≤ 2), (by decide : 2 ≤ 3)⟩
theorem bit2D : Statement (.bit2D) := ⟨rfl, (by decide : 1 ≤ 2), (by decide : 2 ≤ 3)⟩
theorem bit2E : Statement (.bit2E) := ⟨rfl, (by decide : 1 ≤ 2), (by decide : 2 ≤ 3)⟩
theorem bit2H : Statement (.bit2H) := ⟨rfl, (by decide : 1 ≤ 2), (by decide : 2 ≤ 3)⟩
theorem bit2L : Statement (.bit2L) := ⟨rfl, (by decide : 1 ≤ 2), (by decide : 2 ≤ 3)⟩
theorem bit2AtHl : Statement (.bit2AtHl) := ⟨rfl, (by decide : 1 ≤ 2), (by decide : 2 ≤ 3)⟩
theorem bit2A : Statement (.bit2A) := ⟨rfl, (by decide : 1 ≤ 2), (by decide : 2 ≤ 3)⟩
theorem bit3B : Statement (.bit3B) := ⟨rfl, (by decide : 1 ≤ 2), (by decide : 2 ≤ 3)⟩
theorem bit3C : Statement (.bit3C) := ⟨rfl, (by decide : 1 ≤ 2), (by decide : 2 ≤ 3)⟩
theorem bit3D : Statement (.bit3D) := ⟨rfl, (by decide : 1 ≤ 2), (by decide : 2 ≤ 3)⟩
theorem bit3E : Statement (.bit3E) := ⟨rfl, (by decide : 1 ≤ 2), (by decide : 2 ≤ 3)⟩
theorem bit3H : Statement (.bit3H) := ⟨rfl, (by decide : 1 ≤ 2), (by decide : 2 ≤ 3)⟩
theorem bit3L : Statement (.bit3L) := ⟨rfl, (by decide : 1 ≤ 2), (by decide : 2 ≤ 3)⟩
theorem bit3AtHl : Statement (.bit3AtHl) := ⟨rfl, (by decide : 1 ≤ 2), (by decide : 2 ≤ 3)⟩
theorem bit3A : Statement (.bit3A) := ⟨rfl, (by decide : 1 ≤ 2), (by decide : 2 ≤ 3)⟩
theorem bit4B : Statement (.bit4B) := ⟨rfl, (by decide : 1 ≤ 2), (by decide : 2 ≤ 3)⟩
theorem bit4C : Statement (.bit4C) := ⟨rfl, (by decide : 1 ≤ 2), (by decide : 2 ≤ 3)⟩
theorem bit4D : Statement (.bit4D) := ⟨rfl, (by decide : 1 ≤ 2), (by decide : 2 ≤ 3)⟩
theorem bit4E : Statement (.bit4E) := ⟨rfl, (by decide : 1 ≤ 2), (by decide : 2 ≤ 3)⟩
theorem bit4H : Statement (.bit4H) := ⟨rfl, (by decide : 1 ≤ 2), (by decide : 2 ≤ 3)⟩
theorem bit4L : Statement (.bit4L) := ⟨rfl, (by decide : 1 ≤ 2), (by decide : 2 ≤ 3)⟩
theorem bit4AtHl : Statement (.bit4AtHl) := ⟨rfl, (by decide : 1 ≤ 2), (by decide : 2 ≤ 3)⟩
theorem bit4A : Statement (.bit4A) := ⟨rfl, (by decide : 1 ≤ 2), (by decide : 2 ≤ 3)⟩
theorem bit5B : Statement (.bit5B) := ⟨rfl, (by decide : 1 ≤ 2), (by decide : 2 ≤ 3)⟩
theorem bit5C : Statement (.bit5C) := ⟨rfl, (by decide : 1 ≤ 2), (by decide : 2 ≤ 3)⟩
theorem bit5D : Statement (.bit5D) := ⟨rfl, (by decide : 1 ≤ 2), (by decide : 2 ≤ 3)⟩
theorem bit5E : Statement (.bit5E) := ⟨rfl, (by decide : 1 ≤ 2), (by decide : 2 ≤ 3)⟩
theorem bit5H : Statement (.bit5H) := ⟨rfl, (by decide : 1 ≤ 2), (by decide : 2 ≤ 3)⟩
theorem bit5L : Statement (.bit5L) := ⟨rfl, (by decide : 1 ≤ 2), (by decide : 2 ≤ 3)⟩
theorem bit5AtHl : Statement (.bit5AtHl) := ⟨rfl, (by decide : 1 ≤ 2), (by decide : 2 ≤ 3)⟩
theorem bit5A : Statement (.bit5A) := ⟨rfl, (by decide : 1 ≤ 2), (by decide : 2 ≤ 3)⟩
theorem bit6B : Statement (.bit6B) := ⟨rfl, (by decide : 1 ≤ 2), (by decide : 2 ≤ 3)⟩
theorem bit6C : Statement (.bit6C) := ⟨rfl, (by decide : 1 ≤ 2), (by decide : 2 ≤ 3)⟩
theorem bit6D : Statement (.bit6D) := ⟨rfl, (by decide : 1 ≤ 2), (by decide : 2 ≤ 3)⟩
theorem bit6E : Statement (.bit6E) := ⟨rfl, (by decide : 1 ≤ 2), (by decide : 2 ≤ 3)⟩
theorem bit6H : Statement (.bit6H) := ⟨rfl, (by decide : 1 ≤ 2), (by decide : 2 ≤ 3)⟩
theorem bit6L : Statement (.bit6L) := ⟨rfl, (by decide : 1 ≤ 2), (by decide : 2 ≤ 3)⟩
theorem bit6AtHl : Statement (.bit6AtHl) := ⟨rfl, (by decide : 1 ≤ 2), (by decide : 2 ≤ 3)⟩
theorem bit6A : Statement (.bit6A) := ⟨rfl, (by decide : 1 ≤ 2), (by decide : 2 ≤ 3)⟩
theorem bit7B : Statement (.bit7B) := ⟨rfl, (by decide : 1 ≤ 2), (by decide : 2 ≤ 3)⟩
theorem bit7C : Statement (.bit7C) := ⟨rfl, (by decide : 1 ≤ 2), (by decide : 2 ≤ 3)⟩
theorem bit7D : Statement (.bit7D) := ⟨rfl, (by decide : 1 ≤ 2), (by decide : 2 ≤ 3)⟩
theorem bit7E : Statement (.bit7E) := ⟨rfl, (by decide : 1 ≤ 2), (by decide : 2 ≤ 3)⟩
theorem bit7H : Statement (.bit7H) := ⟨rfl, (by decide : 1 ≤ 2), (by decide : 2 ≤ 3)⟩
theorem bit7L : Statement (.bit7L) := ⟨rfl, (by decide : 1 ≤ 2), (by decide : 2 ≤ 3)⟩
theorem bit7AtHl : Statement (.bit7AtHl) := ⟨rfl, (by decide : 1 ≤ 2), (by decide : 2 ≤ 3)⟩
theorem bit7A : Statement (.bit7A) := ⟨rfl, (by decide : 1 ≤ 2), (by decide : 2 ≤ 3)⟩
theorem res0B : Statement (.res0B) := ⟨rfl, (by decide : 1 ≤ 2), (by decide : 2 ≤ 3)⟩
theorem res0C : Statement (.res0C) := ⟨rfl, (by decide : 1 ≤ 2), (by decide : 2 ≤ 3)⟩
theorem res0D : Statement (.res0D) := ⟨rfl, (by decide : 1 ≤ 2), (by decide : 2 ≤ 3)⟩
theorem res0E : Statement (.res0E) := ⟨rfl, (by decide : 1 ≤ 2), (by decide : 2 ≤ 3)⟩
theorem res0H : Statement (.res0H) := ⟨rfl, (by decide : 1 ≤ 2), (by decide : 2 ≤ 3)⟩
theorem res0L : Statement (.res0L) := ⟨rfl, (by decide : 1 ≤ 2), (by decide : 2 ≤ 3)⟩
theorem res0AtHl : Statement (.res0AtHl) := ⟨rfl, (by decide : 1 ≤ 2), (by decide : 2 ≤ 3)⟩
theorem res0A : Statement (.res0A) := ⟨rfl, (by decide : 1 ≤ 2), (by decide : 2 ≤ 3)⟩
theorem res1B : Statement (.res1B) := ⟨rfl, (by decide : 1 ≤ 2), (by decide : 2 ≤ 3)⟩
theorem res1C : Statement (.res1C) := ⟨rfl, (by decide : 1 ≤ 2), (by decide : 2 ≤ 3)⟩
theorem res1D : Statement (.res1D) := ⟨rfl, (by decide : 1 ≤ 2), (by decide : 2 ≤ 3)⟩
theorem res1E : Statement (.res1E) := ⟨rfl, (by decide : 1 ≤ 2), (by decide : 2 ≤ 3)⟩
theorem res1H : Statement (.res1H) := ⟨rfl, (by decide : 1 ≤ 2), (by decide : 2 ≤ 3)⟩
theorem res1L : Statement (.res1L) := ⟨rfl, (by decide : 1 ≤ 2), (by decide : 2 ≤ 3)⟩
theorem res1AtHl : Statement (.res1AtHl) := ⟨rfl, (by decide : 1 ≤ 2), (by decide : 2 ≤ 3)⟩
theorem res1A : Statement (.res1A) := ⟨rfl, (by decide : 1 ≤ 2), (by decide : 2 ≤ 3)⟩
theorem res2B : Statement (.res2B) := ⟨rfl, (by decide : 1 ≤ 2), (by decide : 2 ≤ 3)⟩
theorem res2C : Statement (.res2C) := ⟨rfl, (by decide : 1 ≤ 2), (by decide : 2 ≤ 3)⟩
theorem res2D : Statement (.res2D) := ⟨rfl, (by decide : 1 ≤ 2), (by decide : 2 ≤ 3)⟩
theorem res2E : Statement (.res2E) := ⟨rfl, (by decide : 1 ≤ 2), (by decide : 2 ≤ 3)⟩
theorem res2H : Statement (.res2H) := ⟨rfl, (by decide : 1 ≤ 2), (by decide : 2 ≤ 3)⟩
theorem res2L : Statement (.res2L) := ⟨rfl, (by decide : 1 ≤ 2), (by decide : 2 ≤ 3)⟩
theorem res2AtHl : Statement (.res2AtHl) := ⟨rfl, (by decide : 1 ≤ 2), (by decide : 2 ≤ 3)⟩
theorem res2A : Statement (.res2A) := ⟨rfl, (by decide : 1 ≤ 2), (by decide : 2 ≤ 3)⟩
theorem res3B : Statement (.res3B) := ⟨rfl, (by decide : 1 ≤ 2), (by decide : 2 ≤ 3)⟩
theorem res3C : Statement (.res3C) := ⟨rfl, (by decide : 1 ≤ 2), (by decide : 2 ≤ 3)⟩
theorem res3D : Statement (.res3D) := ⟨rfl, (by decide : 1 ≤ 2), (by decide : 2 ≤ 3)⟩
theorem res3E : Statement (.res3E) := ⟨rfl, (by decide : 1 ≤ 2), (by decide : 2 ≤ 3)⟩
theorem res3H : Statement (.res3H) := ⟨rfl, (by decide : 1 ≤ 2), (by decide : 2 ≤ 3)⟩
theorem res3L : Statement (.res3L) := ⟨rfl, (by decide : 1 ≤ 2), (by decide : 2 ≤ 3)⟩
theorem res3AtHl : Statement (.res3AtHl) := ⟨rfl, (by decide : 1 ≤ 2), (by decide : 2 ≤ 3)⟩
theorem res3A : Statement (.res3A) := ⟨rfl, (by decide : 1 ≤ 2), (by decide : 2 ≤ 3)⟩
theorem res4B : Statement (.res4B) := ⟨rfl, (by decide : 1 ≤ 2), (by decide : 2 ≤ 3)⟩
theorem res4C : Statement (.res4C) := ⟨rfl, (by decide : 1 ≤ 2), (by decide : 2 ≤ 3)⟩
theorem res4D : Statement (.res4D) := ⟨rfl, (by decide : 1 ≤ 2), (by decide : 2 ≤ 3)⟩
theorem res4E : Statement (.res4E) := ⟨rfl, (by decide : 1 ≤ 2), (by decide : 2 ≤ 3)⟩
theorem res4H : Statement (.res4H) := ⟨rfl, (by decide : 1 ≤ 2), (by decide : 2 ≤ 3)⟩
theorem res4L : Statement (.res4L) := ⟨rfl, (by decide : 1 ≤ 2), (by decide : 2 ≤ 3)⟩
theorem res4AtHl : Statement (.res4AtHl) := ⟨rfl, (by decide : 1 ≤ 2), (by decide : 2 ≤ 3)⟩
theorem res4A : Statement (.res4A) := ⟨rfl, (by decide : 1 ≤ 2), (by decide : 2 ≤ 3)⟩
theorem res5B : Statement (.res5B) := ⟨rfl, (by decide : 1 ≤ 2), (by decide : 2 ≤ 3)⟩
theorem res5C : Statement (.res5C) := ⟨rfl, (by decide : 1 ≤ 2), (by decide : 2 ≤ 3)⟩
theorem res5D : Statement (.res5D) := ⟨rfl, (by decide : 1 ≤ 2), (by decide : 2 ≤ 3)⟩
theorem res5E : Statement (.res5E) := ⟨rfl, (by decide : 1 ≤ 2), (by decide : 2 ≤ 3)⟩
theorem res5H : Statement (.res5H) := ⟨rfl, (by decide : 1 ≤ 2), (by decide : 2 ≤ 3)⟩
theorem res5L : Statement (.res5L) := ⟨rfl, (by decide : 1 ≤ 2), (by decide : 2 ≤ 3)⟩
theorem res5AtHl : Statement (.res5AtHl) := ⟨rfl, (by decide : 1 ≤ 2), (by decide : 2 ≤ 3)⟩
theorem res5A : Statement (.res5A) := ⟨rfl, (by decide : 1 ≤ 2), (by decide : 2 ≤ 3)⟩
theorem res6B : Statement (.res6B) := ⟨rfl, (by decide : 1 ≤ 2), (by decide : 2 ≤ 3)⟩
theorem res6C : Statement (.res6C) := ⟨rfl, (by decide : 1 ≤ 2), (by decide : 2 ≤ 3)⟩
theorem res6D : Statement (.res6D) := ⟨rfl, (by decide : 1 ≤ 2), (by decide : 2 ≤ 3)⟩
theorem res6E : Statement (.res6E) := ⟨rfl, (by decide : 1 ≤ 2), (by decide : 2 ≤ 3)⟩
theorem res6H : Statement (.res6H) := ⟨rfl, (by decide : 1 ≤ 2), (by decide : 2 ≤ 3)⟩
theorem res6L : Statement (.res6L) := ⟨rfl, (by decide : 1 ≤ 2), (by decide : 2 ≤ 3)⟩
theorem res6AtHl : Statement (.res6AtHl) := ⟨rfl, (by decide : 1 ≤ 2), (by decide : 2 ≤ 3)⟩
theorem res6A : Statement (.res6A) := ⟨rfl, (by decide : 1 ≤ 2), (by decide : 2 ≤ 3)⟩
theorem res7B : Statement (.res7B) := ⟨rfl, (by decide : 1 ≤ 2), (by decide : 2 ≤ 3)⟩
theorem res7C : Statement (.res7C) := ⟨rfl, (by decide : 1 ≤ 2), (by decide : 2 ≤ 3)⟩
theorem res7D : Statement (.res7D) := ⟨rfl, (by decide : 1 ≤ 2), (by decide : 2 ≤ 3)⟩
theorem res7E : Statement (.res7E) := ⟨rfl, (by decide : 1 ≤ 2), (by decide : 2 ≤ 3)⟩
theorem res7H : Statement (.res7H) := ⟨rfl, (by decide : 1 ≤ 2), (by decide : 2 ≤ 3)⟩
theorem res7L : Statement (.res7L) := ⟨rfl, (by decide : 1 ≤ 2), (by decide : 2 ≤ 3)⟩
theorem res7AtHl : Statement (.res7AtHl) := ⟨rfl, (by decide : 1 ≤ 2), (by decide : 2 ≤ 3)⟩
theorem res7A : Statement (.res7A) := ⟨rfl, (by decide : 1 ≤ 2), (by decide : 2 ≤ 3)⟩
theorem set0B : Statement (.set0B) := ⟨rfl, (by decide : 1 ≤ 2), (by decide : 2 ≤ 3)⟩
theorem set0C : Statement (.set0C) := ⟨rfl, (by decide : 1 ≤ 2), (by decide : 2 ≤ 3)⟩
theorem set0D : Statement (.set0D) := ⟨rfl, (by decide : 1 ≤ 2), (by decide : 2 ≤ 3)⟩
theorem set0E : Statement (.set0E) := ⟨rfl, (by decide : 1 ≤ 2), (by decide : 2 ≤ 3)⟩
theorem set0H : Statement (.set0H) := ⟨rfl, (by decide : 1 ≤ 2), (by decide : 2 ≤ 3)⟩
theorem set0L : Statement (.set0L) := ⟨rfl, (by decide : 1 ≤ 2), (by decide : 2 ≤ 3)⟩
theorem set0AtHl : Statement (.set0AtHl) := ⟨rfl, (by decide : 1 ≤ 2), (by decide : 2 ≤ 3)⟩
theorem set0A : Statement (.set0A) := ⟨rfl, (by decide : 1 ≤ 2), (by decide : 2 ≤ 3)⟩
theorem set1B : Statement (.set1B) := ⟨rfl, (by decide : 1 ≤ 2), (by decide : 2 ≤ 3)⟩
theorem set1C : Statement (.set1C) := ⟨rfl, (by decide : 1 ≤ 2), (by decide : 2 ≤ 3)⟩
theorem set1D : Statement (.set1D) := ⟨rfl, (by decide : 1 ≤ 2), (by decide : 2 ≤ 3)⟩
theorem set1E : Statement (.set1E) := ⟨rfl, (by decide : 1 ≤ 2), (by decide : 2 ≤ 3)⟩
theorem set1H : Statement (.set1H) := ⟨rfl, (by decide : 1 ≤ 2), (by decide : 2 ≤ 3)⟩
theorem set1L : Statement (.set1L) := ⟨rfl, (by decide : 1 ≤ 2), (by decide : 2 ≤ 3)⟩
theorem set1AtHl : Statement (.set1AtHl) := ⟨rfl, (by decide : 1 ≤ 2), (by decide : 2 ≤ 3)⟩
theorem set1A : Statement (.set1A) := ⟨rfl, (by decide : 1 ≤ 2), (by decide : 2 ≤ 3)⟩
theorem set2B : Statement (.set2B) := ⟨rfl, (by decide : 1 ≤ 2), (by decide : 2 ≤ 3)⟩
theorem set2C : Statement (.set2C) := ⟨rfl, (by decide : 1 ≤ 2), (by decide : 2 ≤ 3)⟩
theorem set2D : Statement (.set2D) := ⟨rfl, (by decide : 1 ≤ 2), (by decide : 2 ≤ 3)⟩
theorem set2E : Statement (.set2E) := ⟨rfl, (by decide : 1 ≤ 2), (by decide : 2 ≤ 3)⟩
theorem set2H : Statement (.set2H) := ⟨rfl, (by decide : 1 ≤ 2), (by decide : 2 ≤ 3)⟩
theorem set2L : Statement (.set2L) := ⟨rfl, (by decide : 1 ≤ 2), (by decide : 2 ≤ 3)⟩
theorem set2AtHl : Statement (.set2AtHl) := ⟨rfl, (by decide : 1 ≤ 2), (by decide : 2 ≤ 3)⟩
theorem set2A : Statement (.set2A) := ⟨rfl, (by decide : 1 ≤ 2), (by decide : 2 ≤ 3)⟩
theorem set3B : Statement (.set3B) := ⟨rfl, (by decide : 1 ≤ 2), (by decide : 2 ≤ 3)⟩
theorem set3C : Statement (.set3C) := ⟨rfl, (by decide : 1 ≤ 2), (by decide : 2 ≤ 3)⟩
theorem set3D : Statement (.set3D) := ⟨rfl, (by decide : 1 ≤ 2), (by decide : 2 ≤ 3)⟩
theorem set3E : Statement (.set3E) := ⟨rfl, (by decide : 1 ≤ 2), (by decide : 2 ≤ 3)⟩
theorem set3H : Statement (.set3H) := ⟨rfl, (by decide : 1 ≤ 2), (by decide : 2 ≤ 3)⟩
theorem set3L : Statement (.set3L) := ⟨rfl, (by decide : 1 ≤ 2), (by decide : 2 ≤ 3)⟩
theorem set3AtHl : Statement (.set3AtHl) := ⟨rfl, (by decide : 1 ≤ 2), (by decide : 2 ≤ 3)⟩
theorem set3A : Statement (.set3A) := ⟨rfl, (by decide : 1 ≤ 2), (by decide : 2 ≤ 3)⟩
theorem set4B : Statement (.set4B) := ⟨rfl, (by decide : 1 ≤ 2), (by decide : 2 ≤ 3)⟩
theorem set4C : Statement (.set4C) := ⟨rfl, (by decide : 1 ≤ 2), (by decide : 2 ≤ 3)⟩
theorem set4D : Statement (.set4D) := ⟨rfl, (by decide : 1 ≤ 2), (by decide : 2 ≤ 3)⟩
theorem set4E : Statement (.set4E) := ⟨rfl, (by decide : 1 ≤ 2), (by decide : 2 ≤ 3)⟩
theorem set4H : Statement (.set4H) := ⟨rfl, (by decide : 1 ≤ 2), (by decide : 2 ≤ 3)⟩
theorem set4L : Statement (.set4L) := ⟨rfl, (by decide : 1 ≤ 2), (by decide : 2 ≤ 3)⟩
theorem set4AtHl : Statement (.set4AtHl) := ⟨rfl, (by decide : 1 ≤ 2), (by decide : 2 ≤ 3)⟩
theorem set4A : Statement (.set4A) := ⟨rfl, (by decide : 1 ≤ 2), (by decide : 2 ≤ 3)⟩
theorem set5B : Statement (.set5B) := ⟨rfl, (by decide : 1 ≤ 2), (by decide : 2 ≤ 3)⟩
theorem set5C : Statement (.set5C) := ⟨rfl, (by decide : 1 ≤ 2), (by decide : 2 ≤ 3)⟩
theorem set5D : Statement (.set5D) := ⟨rfl, (by decide : 1 ≤ 2), (by decide : 2 ≤ 3)⟩
theorem set5E : Statement (.set5E) := ⟨rfl, (by decide : 1 ≤ 2), (by decide : 2 ≤ 3)⟩
theorem set5H : Statement (.set5H) := ⟨rfl, (by decide : 1 ≤ 2), (by decide : 2 ≤ 3)⟩
theorem set5L : Statement (.set5L) := ⟨rfl, (by decide : 1 ≤ 2), (by decide : 2 ≤ 3)⟩
theorem set5AtHl : Statement (.set5AtHl) := ⟨rfl, (by decide : 1 ≤ 2), (by decide : 2 ≤ 3)⟩
theorem set5A : Statement (.set5A) := ⟨rfl, (by decide : 1 ≤ 2), (by decide : 2 ≤ 3)⟩
theorem set6B : Statement (.set6B) := ⟨rfl, (by decide : 1 ≤ 2), (by decide : 2 ≤ 3)⟩
theorem set6C : Statement (.set6C) := ⟨rfl, (by decide : 1 ≤ 2), (by decide : 2 ≤ 3)⟩
theorem set6D : Statement (.set6D) := ⟨rfl, (by decide : 1 ≤ 2), (by decide : 2 ≤ 3)⟩
theorem set6E : Statement (.set6E) := ⟨rfl, (by decide : 1 ≤ 2), (by decide : 2 ≤ 3)⟩
theorem set6H : Statement (.set6H) := ⟨rfl, (by decide : 1 ≤ 2), (by decide : 2 ≤ 3)⟩
theorem set6L : Statement (.set6L) := ⟨rfl, (by decide : 1 ≤ 2), (by decide : 2 ≤ 3)⟩
theorem set6AtHl : Statement (.set6AtHl) := ⟨rfl, (by decide : 1 ≤ 2), (by decide : 2 ≤ 3)⟩
theorem set6A : Statement (.set6A) := ⟨rfl, (by decide : 1 ≤ 2), (by decide : 2 ≤ 3)⟩
theorem set7B : Statement (.set7B) := ⟨rfl, (by decide : 1 ≤ 2), (by decide : 2 ≤ 3)⟩
theorem set7C : Statement (.set7C) := ⟨rfl, (by decide : 1 ≤ 2), (by decide : 2 ≤ 3)⟩
theorem set7D : Statement (.set7D) := ⟨rfl, (by decide : 1 ≤ 2), (by decide : 2 ≤ 3)⟩
theorem set7E : Statement (.set7E) := ⟨rfl, (by decide : 1 ≤ 2), (by decide : 2 ≤ 3)⟩
theorem set7H : Statement (.set7H) := ⟨rfl, (by decide : 1 ≤ 2), (by decide : 2 ≤ 3)⟩
theorem set7L : Statement (.set7L) := ⟨rfl, (by decide : 1 ≤ 2), (by decide : 2 ≤ 3)⟩
theorem set7AtHl : Statement (.set7AtHl) := ⟨rfl, (by decide : 1 ≤ 2), (by decide : 2 ≤ 3)⟩
theorem set7A : Statement (.set7A) := ⟨rfl, (by decide : 1 ≤ 2), (by decide : 2 ≤ 3)⟩

end Sys2Proof.Laws.EncodedLength
end

