-- ==== Sys2Proof/Tests/Slice0.lean ====
section
/-! SUPPORT. Tests: ill-formed terms, a word for every row of the opcode table, worked examples of the spec as single steps,
and a witness for the hypotheses of every obligation that has some. Expected results come from spec/ (each test names where). -/

open Sys2Proof Sys2Proof.Machine

namespace Sys2Proof.Tests

set_option maxRecDepth 20000

/-! ## Well-formed terms and the words of the opcode table -/

/-- 30_encoding.md R166: the prefix is no instruction by itself. -/
theorem test_prefix_ill_formed : (Instr.prefixCb 0x37).wellFormed = false := by decide

theorem test_nop_well_formed : Instr.nop.wellFormed = true ∧ (Instr.ldSpNn 0xDFFF).wellFormed = true := by decide

/-- The words of the unprefixed map, row 0x0_ (30_encoding.md R160). -/
theorem test_decode_0x :
    decode [0x00] = .ok (.nop, []) ∧
    decode [0x01, 0x34, 0x12] = .ok (.ldBcNn 0x1234, []) ∧
    decode [0x02] = .ok (.ldAtBcA, []) ∧
    decode [0x03] = .ok (.incBc, []) ∧
    decode [0x04] = .ok (.incB, []) ∧
    decode [0x05] = .ok (.decB, []) ∧
    decode [0x06, 0x5A] = .ok (.ldBN 0x5A, []) ∧
    decode [0x07] = .ok (.rlca, []) ∧
    decode [0x08, 0x34, 0x12] = .ok (.ldAtNnSp 0x1234, []) ∧
    decode [0x09] = .ok (.addHlBc, []) ∧
    decode [0x0A] = .ok (.ldAAtBc, []) ∧
    decode [0x0B] = .ok (.decBc, []) ∧
    decode [0x0C] = .ok (.incC, []) ∧
    decode [0x0D] = .ok (.decC, []) ∧
    decode [0x0E, 0x5A] = .ok (.ldCN 0x5A, []) ∧
    decode [0x0F] = .ok (.rrca, []) :=
  ⟨rfl, rfl, rfl, rfl, rfl, rfl, rfl, rfl, rfl, rfl, rfl, rfl, rfl, rfl, rfl, rfl⟩

/-- The words of the unprefixed map, row 0x1_ (30_encoding.md R160). -/
theorem test_decode_1x :
    decode [0x10, 0x5A] = .ok (.stop, []) ∧
    decode [0x11, 0x34, 0x12] = .ok (.ldDeNn 0x1234, []) ∧
    decode [0x12] = .ok (.ldAtDeA, []) ∧
    decode [0x13] = .ok (.incDe, []) ∧
    decode [0x14] = .ok (.incD, []) ∧
    decode [0x15] = .ok (.decD, []) ∧
    decode [0x16, 0x5A] = .ok (.ldDN 0x5A, []) ∧
    decode [0x17] = .ok (.rla, []) ∧
    decode [0x18, 0x5A] = .ok (.jrE 0x5A, []) ∧
    decode [0x19] = .ok (.addHlDe, []) ∧
    decode [0x1A] = .ok (.ldAAtDe, []) ∧
    decode [0x1B] = .ok (.decDe, []) ∧
    decode [0x1C] = .ok (.incE, []) ∧
    decode [0x1D] = .ok (.decE, []) ∧
    decode [0x1E, 0x5A] = .ok (.ldEN 0x5A, []) ∧
    decode [0x1F] = .ok (.rra, []) :=
  ⟨rfl, rfl, rfl, rfl, rfl, rfl, rfl, rfl, rfl, rfl, rfl, rfl, rfl, rfl, rfl, rfl⟩

/-- The words of the unprefixed map, row 0x2_ (30_encoding.md R160). -/
theorem test_decode_2x :
    decode [0x20, 0x5A] = .ok (.jrNzE 0x5A, []) ∧
    decode [0x21, 0x34, 0x12] = .ok (.ldHlNn 0x1234, []) ∧
    decode [0x22] = .ok (.ldAtHlIncA, []) ∧
    decode [0x23] = .ok (.incHl, []) ∧
    decode [0x24] = .ok (.incH, []) ∧
    decode [0x25] = .ok (.decH, []) ∧
    decode [0x26, 0x5A] = .ok (.ldHN 0x5A, []) ∧
    decode [0x27] = .ok (.daa, []) ∧
    decode [0x28, 0x5A] = .ok (.jrZE 0x5A, []) ∧
    decode [0x29] = .ok (.addHlHl, []) ∧
    decode [0x2A] = .ok (.ldAAtHlInc, []) ∧
    decode [0x2B] = .ok (.decHl, []) ∧
    decode [0x2C] = .ok (.incL, []) ∧
    decode [0x2D] = .ok (.decL, []) ∧
    decode [0x2E, 0x5A] = .ok (.ldLN 0x5A, []) ∧
    decode [0x2F] = .ok (.cpl, []) :=
  ⟨rfl, rfl, rfl, rfl, rfl, rfl, rfl, rfl, rfl, rfl, rfl, rfl, rfl, rfl, rfl, rfl⟩

/-- The words of the unprefixed map, row 0x3_ (30_encoding.md R160). -/
theorem test_decode_3x :
    decode [0x30, 0x5A] = .ok (.jrNcE 0x5A, []) ∧
    decode [0x31, 0x34, 0x12] = .ok (.ldSpNn 0x1234, []) ∧
    decode [0x32] = .ok (.ldAtHlDecA, []) ∧
    decode [0x33] = .ok (.incSp, []) ∧
    decode [0x34] = .ok (.incAtHl, []) ∧
    decode [0x35] = .ok (.decAtHl, []) ∧
    decode [0x36, 0x5A] = .ok (.ldAtHlN 0x5A, []) ∧
    decode [0x37] = .ok (.scf, []) ∧
    decode [0x38, 0x5A] = .ok (.jrCE 0x5A, []) ∧
    decode [0x39] = .ok (.addHlSp, []) ∧
    decode [0x3A] = .ok (.ldAAtHlDec, []) ∧
    decode [0x3B] = .ok (.decSp, []) ∧
    decode [0x3C] = .ok (.incA, []) ∧
    decode [0x3D] = .ok (.decA, []) ∧
    decode [0x3E, 0x5A] = .ok (.ldAN 0x5A, []) ∧
    decode [0x3F] = .ok (.ccf, []) :=
  ⟨rfl, rfl, rfl, rfl, rfl, rfl, rfl, rfl, rfl, rfl, rfl, rfl, rfl, rfl, rfl, rfl⟩

/-- The words of the unprefixed map, row 0x4_ (30_encoding.md R160). -/
theorem test_decode_4x :
    decode [0x40] = .ok (.ldBB, []) ∧
    decode [0x41] = .ok (.ldBC, []) ∧
    decode [0x42] = .ok (.ldBD, []) ∧
    decode [0x43] = .ok (.ldBE, []) ∧
    decode [0x44] = .ok (.ldBH, []) ∧
    decode [0x45] = .ok (.ldBL, []) ∧
    decode [0x46] = .ok (.ldBAtHl, []) ∧
    decode [0x47] = .ok (.ldBA, []) ∧
    decode [0x48] = .ok (.ldCB, []) ∧
    decode [0x49] = .ok (.ldCC, []) ∧
    decode [0x4A] = .ok (.ldCD, []) ∧
    decode [0x4B] = .ok (.ldCE, []) ∧
    decode [0x4C] = .ok (.ldCH, []) ∧
    decode [0x4D] = .ok (.ldCL, []) ∧
    decode [0x4E] = .ok (.ldCAtHl, []) ∧
    decode [0x4F] = .ok (.ldCA, []) :=
  ⟨rfl, rfl, rfl, rfl, rfl, rfl, rfl, rfl, rfl, rfl, rfl, rfl, rfl, rfl, rfl, rfl⟩

/-- The words of the unprefixed map, row 0x5_ (30_encoding.md R160). -/
theorem test_decode_5x :
    decode [0x50] = .ok (.ldDB, []) ∧
    decode [0x51] = .ok (.ldDC, []) ∧
    decode [0x52] = .ok (.ldDD, []) ∧
    decode [0x53] = .ok (.ldDE, []) ∧
    decode [0x54] = .ok (.ldDH, []) ∧
    decode [0x55] = .ok (.ldDL, []) ∧
    decode [0x56] = .ok (.ldDAtHl, []) ∧
    decode [0x57] = .ok (.ldDA, []) ∧
    decode [0x58] = .ok (.ldEB, []) ∧
    decode [0x59] = .ok (.ldEC, []) ∧
    decode [0x5A] = .ok (.ldED, []) ∧
    decode [0x5B] = .ok (.ldEE, []) ∧
    decode [0x5C] = .ok (.ldEH, []) ∧
    decode [0x5D] = .ok (.ldEL, []) ∧
    decode [0x5E] = .ok (.ldEAtHl, []) ∧
    decode [0x5F] = .ok (.ldEA, []) :=
  ⟨rfl, rfl, rfl, rfl, rfl, rfl, rfl, rfl, rfl, rfl, rfl, rfl, rfl, rfl, rfl, rfl⟩

/-- The words of the unprefixed map, row 0x6_ (30_encoding.md R160). -/
theorem test_decode_6x :
    decode [0x60] = .ok (.ldHB, []) ∧
    decode [0x61] = .ok (.ldHC, []) ∧
    decode [0x62] = .ok (.ldHD, []) ∧
    decode [0x63] = .ok (.ldHE, []) ∧
    decode [0x64] = .ok (.ldHH, []) ∧
    decode [0x65] = .ok (.ldHL, []) ∧
    decode [0x66] = .ok (.ldHAtHl, []) ∧
    decode [0x67] = .ok (.ldHA, []) ∧
    decode [0x68] = .ok (.ldLB, []) ∧
    decode [0x69] = .ok (.ldLC, []) ∧
    decode [0x6A] = .ok (.ldLD, []) ∧
    decode [0x6B] = .ok (.ldLE, []) ∧
    decode [0x6C] = .ok (.ldLH, []) ∧
    decode [0x6D] = .ok (.ldLL, []) ∧
    decode [0x6E] = .ok (.ldLAtHl, []) ∧
    decode [0x6F] = .ok (.ldLA, []) :=
  ⟨rfl, rfl, rfl, rfl, rfl, rfl, rfl, rfl, rfl, rfl, rfl, rfl, rfl, rfl, rfl, rfl⟩

/-- The words of the unprefixed map, row 0x7_ (30_encoding.md R160). -/
theorem test_decode_7x :
    decode [0x70] = .ok (.ldAtHlB, []) ∧
    decode [0x71] = .ok (.ldAtHlC, []) ∧
    decode [0x72] = .ok (.ldAtHlD, []) ∧
    decode [0x73] = .ok (.ldAtHlE, []) ∧
    decode [0x74] = .ok (.ldAtHlH, []) ∧
    decode [0x75] = .ok (.ldAtHlL, []) ∧
    decode [0x76] = .ok (.halt, []) ∧
    decode [0x77] = .ok (.ldAtHlA, []) ∧
    decode [0x78] = .ok (.ldAB, []) ∧
    decode [0x79] = .ok (.ldAC, []) ∧
    decode [0x7A] = .ok (.ldAD, []) ∧
    decode [0x7B] = .ok (.ldAE, []) ∧
    decode [0x7C] = .ok (.ldAH, []) ∧
    decode [0x7D] = .ok (.ldAL, []) ∧
    decode [0x7E] = .ok (.ldAAtHl, []) ∧
    decode [0x7F] = .ok (.ldAA, []) :=
  ⟨rfl, rfl, rfl, rfl, rfl, rfl, rfl, rfl, rfl, rfl, rfl, rfl, rfl, rfl, rfl, rfl⟩

/-- The words of the unprefixed map, row 0x8_ (30_encoding.md R160). -/
theorem test_decode_8x :
    decode [0x80] = .ok (.addAB, []) ∧
    decode [0x81] = .ok (.addAC, []) ∧
    decode [0x82] = .ok (.addAD, []) ∧
    decode [0x83] = .ok (.addAE, []) ∧
    decode [0x84] = .ok (.addAH, []) ∧
    decode [0x85] = .ok (.addAL, []) ∧
    decode [0x86] = .ok (.addAAtHl, []) ∧
    decode [0x87] = .ok (.addAA, []) ∧
    decode [0x88] = .ok (.adcAB, []) ∧
    decode [0x89] = .ok (.adcAC, []) ∧
    decode [0x8A] = .ok (.adcAD, []) ∧
    decode [0x8B] = .ok (.adcAE, []) ∧
    decode [0x8C] = .ok (.adcAH, []) ∧
    decode [0x8D] = .ok (.adcAL, []) ∧
    decode [0x8E] = .ok (.adcAAtHl, []) ∧
    decode [0x8F] = .ok (.adcAA, []) :=
  ⟨rfl, rfl, rfl, rfl, rfl, rfl, rfl, rfl, rfl, rfl, rfl, rfl, rfl, rfl, rfl, rfl⟩

/-- The words of the unprefixed map, row 0x9_ (30_encoding.md R160). -/
theorem test_decode_9x :
    decode [0x90] = .ok (.subB, []) ∧
    decode [0x91] = .ok (.subC, []) ∧
    decode [0x92] = .ok (.subD, []) ∧
    decode [0x93] = .ok (.subE, []) ∧
    decode [0x94] = .ok (.subH, []) ∧
    decode [0x95] = .ok (.subL, []) ∧
    decode [0x96] = .ok (.subAtHl, []) ∧
    decode [0x97] = .ok (.subA, []) ∧
    decode [0x98] = .ok (.sbcAB, []) ∧
    decode [0x99] = .ok (.sbcAC, []) ∧
    decode [0x9A] = .ok (.sbcAD, []) ∧
    decode [0x9B] = .ok (.sbcAE, []) ∧
    decode [0x9C] = .ok (.sbcAH, []) ∧
    decode [0x9D] = .ok (.sbcAL, []) ∧
    decode [0x9E] = .ok (.sbcAAtHl, []) ∧
    decode [0x9F] = .ok (.sbcAA, []) :=
  ⟨rfl, rfl, rfl, rfl, rfl, rfl, rfl, rfl, rfl, rfl, rfl, rfl, rfl, rfl, rfl, rfl⟩

/-- The words of the unprefixed map, row 0xA_ (30_encoding.md R160). -/
theorem test_decode_Ax :
    decode [0xA0] = .ok (.andB, []) ∧
    decode [0xA1] = .ok (.andC, []) ∧
    decode [0xA2] = .ok (.andD, []) ∧
    decode [0xA3] = .ok (.andE, []) ∧
    decode [0xA4] = .ok (.andH, []) ∧
    decode [0xA5] = .ok (.andL, []) ∧
    decode [0xA6] = .ok (.andAtHl, []) ∧
    decode [0xA7] = .ok (.andA, []) ∧
    decode [0xA8] = .ok (.xorB, []) ∧
    decode [0xA9] = .ok (.xorC, []) ∧
    decode [0xAA] = .ok (.xorD, []) ∧
    decode [0xAB] = .ok (.xorE, []) ∧
    decode [0xAC] = .ok (.xorH, []) ∧
    decode [0xAD] = .ok (.xorL, []) ∧
    decode [0xAE] = .ok (.xorAtHl, []) ∧
    decode [0xAF] = .ok (.xorA, []) :=
  ⟨rfl, rfl, rfl, rfl, rfl, rfl, rfl, rfl, rfl, rfl, rfl, rfl, rfl, rfl, rfl, rfl⟩

/-- The words of the unprefixed map, row 0xB_ (30_encoding.md R160). -/
theorem test_decode_Bx :
    decode [0xB0] = .ok (.orB, []) ∧
    decode [0xB1] = .ok (.orC, []) ∧
    decode [0xB2] = .ok (.orD, []) ∧
    decode [0xB3] = .ok (.orE, []) ∧
    decode [0xB4] = .ok (.orH, []) ∧
    decode [0xB5] = .ok (.orL, []) ∧
    decode [0xB6] = .ok (.orAtHl, []) ∧
    decode [0xB7] = .ok (.orA, []) ∧
    decode [0xB8] = .ok (.cpB, []) ∧
    decode [0xB9] = .ok (.cpC, []) ∧
    decode [0xBA] = .ok (.cpD, []) ∧
    decode [0xBB] = .ok (.cpE, []) ∧
    decode [0xBC] = .ok (.cpH, []) ∧
    decode [0xBD] = .ok (.cpL, []) ∧
    decode [0xBE] = .ok (.cpAtHl, []) ∧
    decode [0xBF] = .ok (.cpA, []) :=
  ⟨rfl, rfl, rfl, rfl, rfl, rfl, rfl, rfl, rfl, rfl, rfl, rfl, rfl, rfl, rfl, rfl⟩

/-- The words of the unprefixed map, row 0xC_ (30_encoding.md R160). -/
theorem test_decode_Cx :
    decode [0xC0] = .ok (.retNz, []) ∧
    decode [0xC1] = .ok (.popBc, []) ∧
    decode [0xC2, 0x34, 0x12] = .ok (.jpNzNn 0x1234, []) ∧
    decode [0xC3, 0x34, 0x12] = .ok (.jpNn 0x1234, []) ∧
    decode [0xC4, 0x34, 0x12] = .ok (.callNzNn 0x1234, []) ∧
    decode [0xC5] = .ok (.pushBc, []) ∧
    decode [0xC6, 0x5A] = .ok (.addAN 0x5A, []) ∧
    decode [0xC7] = .ok (.rst00, []) ∧
    decode [0xC8] = .ok (.retZ, []) ∧
    decode [0xC9] = .ok (.ret, []) ∧
    decode [0xCA, 0x34, 0x12] = .ok (.jpZNn 0x1234, []) ∧
    decode [0xCC, 0x34, 0x12] = .ok (.callZNn 0x1234, []) ∧
    decode [0xCD, 0x34, 0x12] = .ok (.callNn 0x1234, []) ∧
    decode [0xCE, 0x5A] = .ok (.adcAN 0x5A, []) ∧
    decode [0xCF] = .ok (.rst08, []) :=
  ⟨rfl, rfl, rfl, rfl, rfl, rfl, rfl, rfl, rfl, rfl, rfl, rfl, rfl, rfl, rfl⟩

/-- The words of the unprefixed map, row 0xD_ (30_encoding.md R160). -/
theorem test_decode_Dx :
    decode [0xD0] = .ok (.retNc, []) ∧
    decode [0xD1] = .ok (.popDe, []) ∧
    decode [0xD2, 0x34, 0x12] = .ok (.jpNcNn 0x1234, []) ∧
    decode [0xD3] = .ok (.illegalD3, []) ∧
    decode [0xD4, 0x34, 0x12] = .ok (.callNcNn 0x1234, []) ∧
    decode [0xD5] = .ok (.pushDe, []) ∧
    decode [0xD6, 0x5A] = .ok (.subN 0x5A, []) ∧
    decode [0xD7] = .ok (.rst10, []) ∧
    decode [0xD8] = .ok (.retC, []) ∧
    decode [0xD9] = .ok (.reti, []) ∧
    decode [0xDA, 0x34, 0x12] = .ok (.jpCNn 0x1234, []) ∧
    decode [0xDB] = .ok (.illegalDB, []) ∧
    decode [0xDC, 0x34, 0x12] = .ok (.callCNn 0x1234, []) ∧
    decode [0xDD] = .ok (.illegalDD, []) ∧
    decode [0xDE, 0x5A] = .ok (.sbcAN 0x5A, []) ∧
    decode [0xDF] = .ok (.rst18, []) :=
  ⟨rfl, rfl, rfl, rfl, rfl, rfl, rfl, rfl, rfl, rfl, rfl, rfl, rfl, rfl, rfl, rfl⟩

/-- The words of the unprefixed map, row 0xE_ (30_encoding.md R160). -/
theorem test_decode_Ex :
    decode [0xE0, 0x5A] = .ok (.ldhAtNA 0x5A, []) ∧
    decode [0xE1] = .ok (.popHl, []) ∧
    decode [0xE2] = .ok (.ldhAtCA, []) ∧
    decode [0xE3] = .ok (.illegalE3, []) ∧
    decode [0xE4] = .ok (.illegalE4, []) ∧
    decode [0xE5] = .ok (.pushHl, []) ∧
    decode [0xE6, 0x5A] = .ok (.andN 0x5A, []) ∧
    decode [0xE7] = .ok (.rst20, []) ∧
    decode [0xE8, 0x5A] = .ok (.addSpE 0x5A, []) ∧
    decode [0xE9] = .ok (.jpHl, []) ∧
    decode [0xEA, 0x34, 0x12] = .ok (.ldAtNnA 0x1234, []) ∧
    decode [0xEB] = .ok (.illegalEB, []) ∧
    decode [0xEC] = .ok (.illegalEC, []) ∧
    decode [0xED] = .ok (.illegalED, []) ∧
    decode [0xEE, 0x5A] = .ok (.xorN 0x5A, []) ∧
    decode [0xEF] = .ok (.rst28, []) :=
  ⟨rfl, rfl, rfl, rfl, rfl, rfl, rfl, rfl, rfl, rfl, rfl, rfl, rfl, rfl, rfl, rfl⟩

/-- The words of the unprefixed map, row 0xF_ (30_encoding.md R160). -/
theorem test_decode_Fx :
    decode [0xF0, 0x5A] = .ok (.ldhAAtN 0x5A, []) ∧
    decode [0xF1] = .ok (.popAf, []) ∧
    decode [0xF2] = .ok (.ldhAAtC, []) ∧
    decode [0xF3] = .ok (.di, []) ∧
    decode [0xF4] = .ok (.illegalF4, []) ∧
    decode [0xF5] = .ok (.pushAf, []) ∧
    decode [0xF6, 0x5A] = .ok (.orN 0x5A, []) ∧
    decode [0xF7] = .ok (.rst30, []) ∧
    decode [0xF8, 0x5A] = .ok (.ldHlSpE 0x5A, []) ∧
    decode [0xF9] = .ok (.ldSpHl, []) ∧
    decode [0xFA, 0x34, 0x12] = .ok (.ldAAtNn 0x1234, []) ∧
    decode [0xFB] = .ok (.ei, []) ∧
    decode [0xFC] = .ok (.illegalFC, []) ∧
    decode [0xFD] = .ok (.illegalFD, []) ∧
    decode [0xFE, 0x5A] = .ok (.cpN 0x5A, []) ∧
    decode [0xFF] = .ok (.rst38, []) :=
  ⟨rfl, rfl, rfl, rfl, rfl, rfl, rfl, rfl, rfl, rfl, rfl, rfl, rfl, rfl, rfl, rfl⟩

/-- The words of the prefixed map, row 0x0_ (30_encoding.md R164). -/
theorem test_decode_cb_0x :
    decode [0xCB, 0x00] = .ok (.rlcB, []) ∧
    decode [0xCB, 0x01] = .ok (.rlcC, []) ∧
    decode [0xCB, 0x02] = .ok (.rlcD, []) ∧
    decode [0xCB, 0x03] = .ok (.rlcE, []) ∧
    decode [0xCB, 0x04] = .ok (.rlcH, []) ∧
    decode [0xCB, 0x05] = .ok (.rlcL, []) ∧
    decode [0xCB, 0x06] = .ok (.rlcAtHl, []) ∧
    decode [0xCB, 0x07] = .ok (.rlcA, []) ∧
    decode [0xCB, 0x08] = .ok (.rrcB, []) ∧
    decode [0xCB, 0x09] = .ok (.rrcC, []) ∧
    decode [0xCB, 0x0A] = .ok (.rrcD, []) ∧
    decode [0xCB, 0x0B] = .ok (.rrcE, []) ∧
    decode [0xCB, 0x0C] = .ok (.rrcH, []) ∧
    decode [0xCB, 0x0D] = .ok (.rrcL, []) ∧
    decode [0xCB, 0x0E] = .ok (.rrcAtHl, []) ∧
    decode [0xCB, 0x0F] = .ok (.rrcA, []) :=
  ⟨rfl, rfl, rfl, rfl, rfl, rfl, rfl, rfl, rfl, rfl, rfl, rfl, rfl, rfl, rfl, rfl⟩

/-- The words of the prefixed map, row 0x1_ (30_encoding.md R164). -/
theorem test_decode_cb_1x :
    decode [0xCB, 0x10] = .ok (.rlB, []) ∧
    decode [0xCB, 0x11] = .ok (.rlC, []) ∧
    decode [0xCB, 0x12] = .ok (.rlD, []) ∧
    decode [0xCB, 0x13] = .ok (.rlE, []) ∧
    decode [0xCB, 0x14] = .ok (.rlH, []) ∧
    decode [0xCB, 0x15] = .ok (.rlL, []) ∧
    decode [0xCB, 0x16] = .ok (.rlAtHl, []) ∧
    decode [0xCB, 0x17] = .ok (.rlA, []) ∧
    decode [0xCB, 0x18] = .ok (.rrB, []) ∧
    decode [0xCB, 0x19] = .ok (.rrC, []) ∧
    decode [0xCB, 0x1A] = .ok (.rrD, []) ∧
    decode [0xCB, 0x1B] = .ok (.rrE, []) ∧
    decode [0xCB, 0x1C] = .ok (.rrH, []) ∧
    decode [0xCB, 0x1D] = .ok (.rrL, []) ∧
    decode [0xCB, 0x1E] = .ok (.rrAtHl, []) ∧
    decode [0xCB, 0x1F] = .ok (.rrA, []) :=
  ⟨rfl, rfl, rfl, rfl, rfl, rfl, rfl, rfl, rfl, rfl, rfl, rfl, rfl, rfl, rfl, rfl⟩

/-- The words of the prefixed map, row 0x2_ (30_encoding.md R164). -/
theorem test_decode_cb_2x :
    decode [0xCB, 0x20] = .ok (.slaB, []) ∧
    decode [0xCB, 0x21] = .ok (.slaC, []) ∧
    decode [0xCB, 0x22] = .ok (.slaD, []) ∧
    decode [0xCB, 0x23] = .ok (.slaE, []) ∧
    decode [0xCB, 0x24] = .ok (.slaH, []) ∧
    decode [0xCB, 0x25] = .ok (.slaL, []) ∧
    decode [0xCB, 0x26] = .ok (.slaAtHl, []) ∧
    decode [0xCB, 0x27] = .ok (.slaA, []) ∧
    decode [0xCB, 0x28] = .ok (.sraB, []) ∧
    decode [0xCB, 0x29] = .ok (.sraC, []) ∧
    decode [0xCB, 0x2A] = .ok (.sraD, []) ∧
    decode [0xCB, 0x2B] = .ok (.sraE, []) ∧
    decode [0xCB, 0x2C] = .ok (.sraH, []) ∧
    decode [0xCB, 0x2D] = .ok (.sraL, []) ∧
    decode [0xCB, 0x2E] = .ok (.sraAtHl, []) ∧
    decode [0xCB, 0x2F] = .ok (.sraA, []) :=
  ⟨rfl, rfl, rfl, rfl, rfl, rfl, rfl, rfl, rfl, rfl, rfl, rfl, rfl, rfl, rfl, rfl⟩

/-- The words of the prefixed map, row 0x3_ (30_encoding.md R164). -/
theorem test_decode_cb_3x :
    decode [0xCB, 0x30] = .ok (.swapB, []) ∧
    decode [0xCB, 0x31] = .ok (.swapC, []) ∧
    decode [0xCB, 0x32] = .ok (.swapD, []) ∧
    decode [0xCB, 0x33] = .ok (.swapE, []) ∧
    decode [0xCB, 0x34] = .ok (.swapH, []) ∧
    decode [0xCB, 0x35] = .ok (.swapL, []) ∧
    decode [0xCB, 0x36] = .ok (.swapAtHl, []) ∧
    decode [0xCB, 0x37] = .ok (.swapA, []) ∧
    decode [0xCB, 0x38] = .ok (.srlB, []) ∧
    decode [0xCB, 0x39] = .ok (.srlC, []) ∧
    decode [0xCB, 0x3A] = .ok (.srlD, []) ∧
    decode [0xCB, 0x3B] = .ok (.srlE, []) ∧
    decode [0xCB, 0x3C] = .ok (.srlH, []) ∧
    decode [0xCB, 0x3D] = .ok (.srlL, []) ∧
    decode [0xCB, 0x3E] = .ok (.srlAtHl, []) ∧
    decode [0xCB, 0x3F] = .ok (.srlA, []) :=
  ⟨rfl, rfl, rfl, rfl, rfl, rfl, rfl, rfl, rfl, rfl, rfl, rfl, rfl, rfl, rfl, rfl⟩

/-- The words of the prefixed map, row 0x4_ (30_encoding.md R164). -/
theorem test_decode_cb_4x :
    decode [0xCB, 0x40] = .ok (.bit0B, []) ∧
    decode [0xCB, 0x41] = .ok (.bit0C, []) ∧
    decode [0xCB, 0x42] = .ok (.bit0D, []) ∧
    decode [0xCB, 0x43] = .ok (.bit0E, []) ∧
    decode [0xCB, 0x44] = .ok (.bit0H, []) ∧
    decode [0xCB, 0x45] = .ok (.bit0L, []) ∧
    decode [0xCB, 0x46] = .ok (.bit0AtHl, []) ∧
    decode [0xCB, 0x47] = .ok (.bit0A, []) ∧
    decode [0xCB, 0x48] = .ok (.bit1B, []) ∧
    decode [0xCB, 0x49] = .ok (.bit1C, []) ∧
    decode [0xCB, 0x4A] = .ok (.bit1D, []) ∧
    decode [0xCB, 0x4B] = .ok (.bit1E, []) ∧
    decode [0xCB, 0x4C] = .ok (.bit1H, []) ∧
    decode [0xCB, 0x4D] = .ok (.bit1L, []) ∧
    decode [0xCB, 0x4E] = .ok (.bit1AtHl, []) ∧
    decode [0xCB, 0x4F] = .ok (.bit1A, []) :=
  ⟨rfl, rfl, rfl, rfl, rfl, rfl, rfl, rfl, rfl, rfl, rfl, rfl, rfl, rfl, rfl, rfl⟩

/-- The words of the prefixed map, row 0x5_ (30_encoding.md R164). -/
theorem test_decode_cb_5x :
    decode [0xCB, 0x50] = .ok (.bit2B, []) ∧
    decode [0xCB, 0x51] = .ok (.bit2C, []) ∧
    decode [0xCB, 0x52] = .ok (.bit2D, []) ∧
    decode [0xCB, 0x53] = .ok (.bit2E, []) ∧
    decode [0xCB, 0x54] = .ok (.bit2H, []) ∧
    decode [0xCB, 0x55] = .ok (.bit2L, []) ∧
    decode [0xCB, 0x56] = .ok (.bit2AtHl, []) ∧
    decode [0xCB, 0x57] = .ok (.bit2A, []) ∧
    decode [0xCB, 0x58] = .ok (.bit3B, []) ∧
    decode [0xCB, 0x59] = .ok (.bit3C, []) ∧
    decode [0xCB, 0x5A] = .ok (.bit3D, []) ∧
    decode [0xCB, 0x5B] = .ok (.bit3E, []) ∧
    decode [0xCB, 0x5C] = .ok (.bit3H, []) ∧
    decode [0xCB, 0x5D] = .ok (.bit3L, []) ∧
    decode [0xCB, 0x5E] = .ok (.bit3AtHl, []) ∧
    decode [0xCB, 0x5F] = .ok (.bit3A, []) :=
  ⟨rfl, rfl, rfl, rfl, rfl, rfl, rfl, rfl, rfl, rfl, rfl, rfl, rfl, rfl, rfl, rfl⟩

/-- The words of the prefixed map, row 0x6_ (30_encoding.md R164). -/
theorem test_decode_cb_6x :
    decode [0xCB, 0x60] = .ok (.bit4B, []) ∧
    decode [0xCB, 0x61] = .ok (.bit4C, []) ∧
    decode [0xCB, 0x62] = .ok (.bit4D, []) ∧
    decode [0xCB, 0x63] = .ok (.bit4E, []) ∧
    decode [0xCB, 0x64] = .ok (.bit4H, []) ∧
    decode [0xCB, 0x65] = .ok (.bit4L, []) ∧
    decode [0xCB, 0x66] = .ok (.bit4AtHl, []) ∧
    decode [0xCB, 0x67] = .ok (.bit4A, []) ∧
    decode [0xCB, 0x68] = .ok (.bit5B, []) ∧
    decode [0xCB, 0x69] = .ok (.bit5C, []) ∧
    decode [0xCB, 0x6A] = .ok (.bit5D, []) ∧
    decode [0xCB, 0x6B] = .ok (.bit5E, []) ∧
    decode [0xCB, 0x6C] = .ok (.bit5H, []) ∧
    decode [0xCB, 0x6D] = .ok (.bit5L, []) ∧
    decode [0xCB, 0x6E] = .ok (.bit5AtHl, []) ∧
    decode [0xCB, 0x6F] = .ok (.bit5A, []) :=
  ⟨rfl, rfl, rfl, rfl, rfl, rfl, rfl, rfl, rfl, rfl, rfl, rfl, rfl, rfl, rfl, rfl⟩

/-- The words of the prefixed map, row 0x7_ (30_encoding.md R164). -/
theorem test_decode_cb_7x :
    decode [0xCB, 0x70] = .ok (.bit6B, []) ∧
    decode [0xCB, 0x71] = .ok (.bit6C, []) ∧
    decode [0xCB, 0x72] = .ok (.bit6D, []) ∧
    decode [0xCB, 0x73] = .ok (.bit6E, []) ∧
    decode [0xCB, 0x74] = .ok (.bit6H, []) ∧
    decode [0xCB, 0x75] = .ok (.bit6L, []) ∧
    decode [0xCB, 0x76] = .ok (.bit6AtHl, []) ∧
    decode [0xCB, 0x77] = .ok (.bit6A, []) ∧
    decode [0xCB, 0x78] = .ok (.bit7B, []) ∧
    decode [0xCB, 0x79] = .ok (.bit7C, []) ∧
    decode [0xCB, 0x7A] = .ok (.bit7D, []) ∧
    decode [0xCB, 0x7B] = .ok (.bit7E, []) ∧
    decode [0xCB, 0x7C] = .ok (.bit7H, []) ∧
    decode [0xCB, 0x7D] = .ok (.bit7L, []) ∧
    decode [0xCB, 0x7E] = .ok (.bit7AtHl, []) ∧
    decode [0xCB, 0x7F] = .ok (.bit7A, []) :=
  ⟨rfl, rfl, rfl, rfl, rfl, rfl, rfl, rfl, rfl, rfl, rfl, rfl, rfl, rfl, rfl, rfl⟩

/-- The words of the prefixed map, row 0x8_ (30_encoding.md R164). -/
theorem test_decode_cb_8x :
    decode [0xCB, 0x80] = .ok (.res0B, []) ∧
    decode [0xCB, 0x81] = .ok (.res0C, []) ∧
    decode [0xCB, 0x82] = .ok (.res0D, []) ∧
    decode [0xCB, 0x83] = .ok (.res0E, []) ∧
    decode [0xCB, 0x84] = .ok (.res0H, []) ∧
    decode [0xCB, 0x85] = .ok (.res0L, []) ∧
    decode [0xCB, 0x86] = .ok (.res0AtHl, []) ∧
    decode [0xCB, 0x87] = .ok (.res0A, []) ∧
    decode [0xCB, 0x88] = .ok (.res1B, []) ∧
    decode [0xCB, 0x89] = .ok (.res1C, []) ∧
    decode [0xCB, 0x8A] = .ok (.res1D, []) ∧
    decode [0xCB, 0x8B] = .ok (.res1E, []) ∧
    decode [0xCB, 0x8C] = .ok (.res1H, []) ∧
    decode [0xCB, 0x8D] = .ok (.res1L, []) ∧
    decode [0xCB, 0x8E] = .ok (.res1AtHl, []) ∧
    decode [0xCB, 0x8F] = .ok (.res1A, []) :=
  ⟨rfl, rfl, rfl, rfl, rfl, rfl, rfl, rfl, rfl, rfl, rfl, rfl, rfl, rfl, rfl, rfl⟩

/-- The words of the prefixed map, row 0x9_ (30_encoding.md R164). -/
theorem test_decode_cb_9x :
    decode [0xCB, 0x90] = .ok (.res2B, []) ∧
    decode [0xCB, 0x91] = .ok (.res2C, []) ∧
    decode [0xCB, 0x92] = .ok (.res2D, []) ∧
    decode [0xCB, 0x93] = .ok (.res2E, []) ∧
    decode [0xCB, 0x94] = .ok (.res2H, []) ∧
    decode [0xCB, 0x95] = .ok (.res2L, []) ∧
    decode [0xCB, 0x96] = .ok (.res2AtHl, []) ∧
    decode [0xCB, 0x97] = .ok (.res2A, []) ∧
    decode [0xCB, 0x98] = .ok (.res3B, []) ∧
    decode [0xCB, 0x99] = .ok (.res3C, []) ∧
    decode [0xCB, 0x9A] = .ok (.res3D, []) ∧
    decode [0xCB, 0x9B] = .ok (.res3E, []) ∧
    decode [0xCB, 0x9C] = .ok (.res3H, []) ∧
    decode [0xCB, 0x9D] = .ok (.res3L, []) ∧
    decode [0xCB, 0x9E] = .ok (.res3AtHl, []) ∧
    decode [0xCB, 0x9F] = .ok (.res3A, []) :=
  ⟨rfl, rfl, rfl, rfl, rfl, rfl, rfl, rfl, rfl, rfl, rfl, rfl, rfl, rfl, rfl, rfl⟩

/-- The words of the prefixed map, row 0xA_ (30_encoding.md R164). -/
theorem test_decode_cb_Ax :
    decode [0xCB, 0xA0] = .ok (.res4B, []) ∧
    decode [0xCB, 0xA1] = .ok (.res4C, []) ∧
    decode [0xCB, 0xA2] = .ok (.res4D, []) ∧
    decode [0xCB, 0xA3] = .ok (.res4E, []) ∧
    decode [0xCB, 0xA4] = .ok (.res4H, []) ∧
    decode [0xCB, 0xA5] = .ok (.res4L, []) ∧
    decode [0xCB, 0xA6] = .ok (.res4AtHl, []) ∧
    decode [0xCB, 0xA7] = .ok (.res4A, []) ∧
    decode [0xCB, 0xA8] = .ok (.res5B, []) ∧
    decode [0xCB, 0xA9] = .ok (.res5C, []) ∧
    decode [0xCB, 0xAA] = .ok (.res5D, []) ∧
    decode [0xCB, 0xAB] = .ok (.res5E, []) ∧
    decode [0xCB, 0xAC] = .ok (.res5H, []) ∧
    decode [0xCB, 0xAD] = .ok (.res5L, []) ∧
    decode [0xCB, 0xAE] = .ok (.res5AtHl, []) ∧
    decode [0xCB, 0xAF] = .ok (.res5A, []) :=
  ⟨rfl, rfl, rfl, rfl, rfl, rfl, rfl, rfl, rfl, rfl, rfl, rfl, rfl, rfl, rfl, rfl⟩

/-- The words of the prefixed map, row 0xB_ (30_encoding.md R164). -/
theorem test_decode_cb_Bx :
    decode [0xCB, 0xB0] = .ok (.res6B, []) ∧
    decode [0xCB, 0xB1] = .ok (.res6C, []) ∧
    decode [0xCB, 0xB2] = .ok (.res6D, []) ∧
    decode [0xCB, 0xB3] = .ok (.res6E, []) ∧
    decode [0xCB, 0xB4] = .ok (.res6H, []) ∧
    decode [0xCB, 0xB5] = .ok (.res6L, []) ∧
    decode [0xCB, 0xB6] = .ok (.res6AtHl, []) ∧
    decode [0xCB, 0xB7] = .ok (.res6A, []) ∧
    decode [0xCB, 0xB8] = .ok (.res7B, []) ∧
    decode [0xCB, 0xB9] = .ok (.res7C, []) ∧
    decode [0xCB, 0xBA] = .ok (.res7D, []) ∧
    decode [0xCB, 0xBB] = .ok (.res7E, []) ∧
    decode [0xCB, 0xBC] = .ok (.res7H, []) ∧
    decode [0xCB, 0xBD] = .ok (.res7L, []) ∧
    decode [0xCB, 0xBE] = .ok (.res7AtHl, []) ∧
    decode [0xCB, 0xBF] = .ok (.res7A, []) :=
  ⟨rfl, rfl, rfl, rfl, rfl, rfl, rfl, rfl, rfl, rfl, rfl, rfl, rfl, rfl, rfl, rfl⟩

/-- The words of the prefixed map, row 0xC_ (30_encoding.md R164). -/
theorem test_decode_cb_Cx :
    decode [0xCB, 0xC0] = .ok (.set0B, []) ∧
    decode [0xCB, 0xC1] = .ok (.set0C, []) ∧
    decode [0xCB, 0xC2] = .ok (.set0D, []) ∧
    decode [0xCB, 0xC3] = .ok (.set0E, []) ∧
    decode [0xCB, 0xC4] = .ok (.set0H, []) ∧
    decode [0xCB, 0xC5] = .ok (.set0L, []) ∧
    decode [0xCB, 0xC6] = .ok (.set0AtHl, []) ∧
    decode [0xCB, 0xC7] = .ok (.set0A, []) ∧
    decode [0xCB, 0xC8] = .ok (.set1B, []) ∧
    decode [0xCB, 0xC9] = .ok (.set1C, []) ∧
    decode [0xCB, 0xCA] = .ok (.set1D, []) ∧
    decode [0xCB, 0xCB] = .ok (.set1E, []) ∧
    decode [0xCB, 0xCC] = .ok (.set1H, []) ∧
    decode [0xCB, 0xCD] = .ok (.set1L, []) ∧
    decode [0xCB, 0xCE] = .ok (.set1AtHl, []) ∧
    decode [0xCB, 0xCF] = .ok (.set1A, []) :=
  ⟨rfl, rfl, rfl, rfl, rfl, rfl, rfl, rfl, rfl, rfl, rfl, rfl, rfl, rfl, rfl, rfl⟩

/-- The words of the prefixed map, row 0xD_ (30_encoding.md R164). -/
theorem test_decode_cb_Dx :
    decode [0xCB, 0xD0] = .ok (.set2B, []) ∧
    decode [0xCB, 0xD1] = .ok (.set2C, []) ∧
    decode [0xCB, 0xD2] = .ok (.set2D, []) ∧
    decode [0xCB, 0xD3] = .ok (.set2E, []) ∧
    decode [0xCB, 0xD4] = .ok (.set2H, []) ∧
    decode [0xCB, 0xD5] = .ok (.set2L, []) ∧
    decode [0xCB, 0xD6] = .ok (.set2AtHl, []) ∧
    decode [0xCB, 0xD7] = .ok (.set2A, []) ∧
    decode [0xCB, 0xD8] = .ok (.set3B, []) ∧
    decode [0xCB, 0xD9] = .ok (.set3C, []) ∧
    decode [0xCB, 0xDA] = .ok (.set3D, []) ∧
    decode [0xCB, 0xDB] = .ok (.set3E, []) ∧
    decode [0xCB, 0xDC] = .ok (.set3H, []) ∧
    decode [0xCB, 0xDD] = .ok (.set3L, []) ∧
    decode [0xCB, 0xDE] = .ok (.set3AtHl, []) ∧
    decode [0xCB, 0xDF] = .ok (.set3A, []) :=
  ⟨rfl, rfl, rfl, rfl, rfl, rfl, rfl, rfl, rfl, rfl, rfl, rfl, rfl, rfl, rfl, rfl⟩

/-- The words of the prefixed map, row 0xE_ (30_encoding.md R164). -/
theorem test_decode_cb_Ex :
    decode [0xCB, 0xE0] = .ok (.set4B, []) ∧
    decode [0xCB, 0xE1] = .ok (.set4C, []) ∧
    decode [0xCB, 0xE2] = .ok (.set4D, []) ∧
    decode [0xCB, 0xE3] = .ok (.set4E, []) ∧
    decode [0xCB, 0xE4] = .ok (.set4H, []) ∧
    decode [0xCB, 0xE5] = .ok (.set4L, []) ∧
    decode [0xCB, 0xE6] = .ok (.set4AtHl, []) ∧
    decode [0xCB, 0xE7] = .ok (.set4A, []) ∧
    decode [0xCB, 0xE8] = .ok (.set5B, []) ∧
    decode [0xCB, 0xE9] = .ok (.set5C, []) ∧
    decode [0xCB, 0xEA] = .ok (.set5D, []) ∧
    decode [0xCB, 0xEB] = .ok (.set5E, []) ∧
    decode [0xCB, 0xEC] = .ok (.set5H, []) ∧
    decode [0xCB, 0xED] = .ok (.set5L, []) ∧
    decode [0xCB, 0xEE] = .ok (.set5AtHl, []) ∧
    decode [0xCB, 0xEF] = .ok (.set5A, []) :=
  ⟨rfl, rfl, rfl, rfl, rfl, rfl, rfl, rfl, rfl, rfl, rfl, rfl, rfl, rfl, rfl, rfl⟩

/-- The words of the prefixed map, row 0xF_ (30_encoding.md R164). -/
theorem test_decode_cb_Fx :
    decode [0xCB, 0xF0] = .ok (.set6B, []) ∧
    decode [0xCB, 0xF1] = .ok (.set6C, []) ∧
    decode [0xCB, 0xF2] = .ok (.set6D, []) ∧
    decode [0xCB, 0xF3] = .ok (.set6E, []) ∧
    decode [0xCB, 0xF4] = .ok (.set6H, []) ∧
    decode [0xCB, 0xF5] = .ok (.set6L, []) ∧
    decode [0xCB, 0xF6] = .ok (.set6AtHl, []) ∧
    decode [0xCB, 0xF7] = .ok (.set6A, []) ∧
    decode [0xCB, 0xF8] = .ok (.set7B, []) ∧
    decode [0xCB, 0xF9] = .ok (.set7C, []) ∧
    decode [0xCB, 0xFA] = .ok (.set7D, []) ∧
    decode [0xCB, 0xFB] = .ok (.set7E, []) ∧
    decode [0xCB, 0xFC] = .ok (.set7H, []) ∧
    decode [0xCB, 0xFD] = .ok (.set7L, []) ∧
    decode [0xCB, 0xFE] = .ok (.set7AtHl, []) ∧
    decode [0xCB, 0xFF] = .ok (.set7A, []) :=
  ⟨rfl, rfl, rfl, rfl, rfl, rfl, rfl, rfl, rfl, rfl, rfl, rfl, rfl, rfl, rfl, rfl⟩

/-- Words put together bit by bit from each family's encoding: `01 yyy zzz` (R200), `00 pp 0001` (R230), `10 000 zzz`
(R251), `00 pp 1001` (R290), `0xCB` then `01 bbb zzz` (R321), `11 yyy 111` (R340), `11 110 011` (R363), `11 011 101` (R366). -/
theorem test_bits :
    decode [0b01#2 ++ (0b111#3 ++ 0b000#3)] = .ok (.ldAB, []) ∧
    decode [0b00#2 ++ (0b10#2 ++ 0b0001#4), 0xCD, 0xAB] = .ok (.ldHlNn 0xABCD, []) ∧
    decode [0b10#2 ++ (0b000#3 ++ 0b110#3)] = .ok (.addAAtHl, []) ∧
    decode [0b00#2 ++ (0b11#2 ++ 0b1001#4)] = .ok (.addHlSp, []) ∧
    decode [0xCB, 0b01#2 ++ (0b101#3 ++ 0b110#3)] = .ok (.bit5AtHl, []) ∧
    decode [0b11#2 ++ (0b101#3 ++ 0b111#3)] = .ok (.rst28, []) ∧
    decode [0b11#2 ++ (0b110#3 ++ 0b011#3)] = .ok (.di, []) ∧
    decode [0b11#2 ++ (0b011#3 ++ 0b101#3)] = .ok (.illegalDD, []) :=
  ⟨rfl, rfl, rfl, rfl, rfl, rfl, rfl, rfl⟩

theorem test_decode_truncated : decode [0xCD, 0x34] = .error (.truncated 0xCD) ∧ decode [] = .error .empty := ⟨rfl, rfl⟩

/-! ## One step on a small state

`at_ g cells nbits w` is the reset state with the Cpu changed by `g`, memory cells written, and a word of the opcode table
where the next step fetches. -/

def at_ (g : Cpu → Cpu) (cells : List Host.Cell) (nbits w : Nat) : State :=
  let s := State.reset.mapCpu g
  let mem := cells.foldl (fun m c => Memory.write m c.1 c.2) s.bus.mem
  State.withFetchWord { s with bus := { s.bus with mem := mem } } nbits w

/-- What `f` reads in the state after one step, and the M-cycles of the step. -/
def after {α : Type} (s : State) (f : State → α) : Option (α × Nat) :=
  match step s with
  | .next t => some (f t, t.bus.cycles - s.bus.cycles)
  | _ => none

/-- A and F after. -/
def afA (s : State) : Byte × Byte := (s.cpu.a, s.cpu.f)

/-- A byte of memory after. -/
def cell (k : Nat) (s : State) : Byte := s.bus.mem.read k

/-- R200 -/
theorem test_ld_b_c :
    after (at_ (fun c => { c with b := 0x00, c := 0x5A }) [] 8 0x41) (fun s => s.cpu.b) = some (0x5A, 1) := by decide
/-- R201 -/
theorem test_ld_a_n :
    after (at_ (fun c => c) [] 16 0x423E) (fun s => (s.cpu.a, s.cpu.pc)) = some ((0x42, 0x0102), 2) := by decide
/-- R202 -/
theorem test_ld_b_at_hl :
    after (at_ (fun c => { c with h := 0xC0, l := 0x00 }) [(0xC000, 0x99)] 8 0x46) (fun s => s.cpu.b) = some (0x99, 2) := by decide
/-- R203 -/
theorem test_ld_at_hl_a :
    after (at_ (fun c => { c with h := 0xC0, l := 0x10, a := 0x12 }) [] 8 0x77) (cell 0xC010) = some (0x12, 2) := by decide
/-- R204 -/
theorem test_ld_at_hl_n :
    after (at_ (fun c => { c with h := 0xC0, l := 0x00 }) [] 16 0x7F36) (cell 0xC000) = some (0x7F, 3) := by decide
/-- R205 -/
theorem test_ld_a_at_bc :
    after (at_ (fun c => { c with b := 0xC1, c := 0x00 }) [(0xC100, 0x01)] 8 0x0A) (fun s => s.cpu.a) = some (0x01, 2) := by decide
/-- R206: a ROM byte -/
theorem test_ld_a_at_de :
    after (at_ (fun c => { c with d := 0x01, e := 0x50 }) [(0x10150, 0xC3)] 8 0x1A) (fun s => s.cpu.a) = some (0xC3, 2) := by decide
/-- R207 -/
theorem test_ld_at_bc_a :
    after (at_ (fun c => { c with b := 0xC0, c := 0x00, a := 0x55 }) [] 8 0x02) (cell 0xC000) = some (0x55, 2) := by decide
/-- R208 -/
theorem test_ld_at_de_a :
    after (at_ (fun c => { c with d := 0xD0, e := 0x00, a := 0xAA }) [] 8 0x12) (cell 0xD000) = some (0xAA, 2) := by decide
/-- R209 -/
theorem test_ld_a_at_nn :
    after (at_ (fun c => c) [(0xC123, 0x77)] 24 0xC123FA) (fun s => s.cpu.a) = some (0x77, 4) := by decide
/-- R210, in work RAM -/
theorem test_ld_at_nn_a :
    after (at_ (fun c => { c with a := 0x01 }) [] 24 0xC000EA) (cell 0xC000) = some (0x01, 4) := by decide
/-- R212: the DMA starts, two M-cycles from its first byte -/
theorem test_ldh_at_n_a :
    after (at_ (fun c => { c with a := 0xC0 }) [] 16 0x46E0) (fun s => s.bus.dma) = some ({ reg := 0xC0, st := .starting 0xC0 1 false }, 3) := by decide
/-- R213 -/
theorem test_ldh_a_at_c :
    after (at_ (fun c => { c with c := 0x80 }) [(0xFF80, 0x3C)] 8 0xF2) (fun s => s.cpu.a) = some (0x3C, 2) := by decide
/-- R214: IF -/
theorem test_ldh_at_c_a :
    after (at_ (fun c => { c with c := 0x0F, a := 0x00 }) [] 8 0xE2) (fun s => s.bus.irq.iflag) = some (0, 2) := by decide
/-- R215 -/
theorem test_ld_a_at_hl_inc :
    after (at_ (fun c => { c with h := 0xC0, l := 0x00 }) [(0xC000, 0x10)] 8 0x2A) (fun s => (s.cpu.a, s.cpu.hl)) = some ((0x10, 0xC001), 2) := by decide
/-- R216 -/
theorem test_ld_a_at_hl_dec :
    after (at_ (fun c => { c with h := 0xC0, l := 0x01 }) [(0xC001, 0x20)] 8 0x3A) (fun s => (s.cpu.a, s.cpu.hl)) = some ((0x20, 0xC000), 2) := by decide
/-- R217: HL carries into H -/
theorem test_ld_at_hl_inc_a :
    after (at_ (fun c => { c with h := 0xC0, l := 0xFF, a := 0x01 }) [] 8 0x22) (fun s => (cell 0xC0FF s, s.cpu.hl)) = some ((0x01, 0xC100), 2) := by decide
/-- R218: outside pixel transfer -/
theorem test_ld_at_hl_dec_a :
    after (at_ (fun c => { c with h := 0x9F, l := 0xFF, a := 0x00 }) [(0x9FFF, 0x33)] 8 0x32) (fun s => (cell 0x9FFF s, s.cpu.hl)) = some ((0x00, 0x9FFE), 2) := by decide
/-- R230 -/
theorem test_ld_sp_nn :
    after (at_ (fun c => c) [] 24 0xDFFF31) (fun s => s.cpu.sp) = some (0xDFFF, 3) := by decide
/-- R231 -/
theorem test_ld_sp_hl :
    after (at_ (fun c => { c with h := 0xC1, l := 0x00 }) [] 8 0xF9) (fun s => s.cpu.sp) = some (0xC100, 2) := by decide
/-- R232 -/
theorem test_ld_at_nn_sp :
    after (at_ (fun c => { c with sp := 0xFFF8 }) [] 24 0xC00008) (fun s => (cell 0xC000 s, cell 0xC001 s)) = some ((0xF8, 0xFF), 5) := by decide
/-- R233 -/
theorem test_ld_hl_sp_e :
    after (at_ (fun c => { c with sp := 0xFFF8 }) [] 16 0x2F8) (fun s => (s.cpu.hl, s.cpu.f)) = some ((0xFFFA, 0x00), 3) := by decide
/-- R235 -/
theorem test_push_bc :
    after (at_ (fun c => { c with b := 0x12, c := 0x34 }) [] 8 0xC5) (fun s => (cell 0xFFFD s, cell 0xFFFC s, s.cpu.sp)) = some ((0x12, 0x34, 0xFFFC), 4) := by decide
/-- R236: the low nibble of F is dropped -/
theorem test_pop_af :
    after (at_ (fun c => { c with sp := 0xFFFC }) [(0xFFFC, 0xFF), (0xFFFD, 0x12)] 8 0xF1) (fun s => (s.cpu.a, s.cpu.f, s.cpu.sp)) = some ((0x12, 0xF0, 0xFFFE), 3) := by decide
/-- R251 -/
theorem test_add :
    after (at_ (fun c => { c with a := 0x3A, b := 0xC6 }) [] 8 0x80) afA = some ((0x00, 0xB0), 1) := by decide
/-- R254 -/
theorem test_adc :
    after (at_ (fun c => { c with a := 0xE1, b := 0x0F, f := 0x10 }) [] 8 0x88) afA = some ((0xF1, 0x20), 1) := by decide
/-- R257 -/
theorem test_sub :
    after (at_ (fun c => { c with a := 0x3E, b := 0x3E }) [] 8 0x90) afA = some ((0x00, 0xC0), 1) := by decide
/-- R260 -/
theorem test_sbc :
    after (at_ (fun c => { c with a := 0x3B, b := 0x2A, f := 0x10 }) [] 8 0x98) afA = some ((0x10, 0x40), 1) := by decide
/-- R263 -/
theorem test_and :
    after (at_ (fun c => { c with a := 0x5A, b := 0x3F }) [] 8 0xA0) afA = some ((0x1A, 0x20), 1) := by decide
/-- R266 -/
theorem test_xor :
    after (at_ (fun c => { c with a := 0xFF }) [] 8 0xAF) afA = some ((0x00, 0x80), 1) := by decide
/-- R269 -/
theorem test_or :
    after (at_ (fun c => { c with a := 0x5A, b := 0x00 }) [] 8 0xB0) afA = some ((0x5A, 0x00), 1) := by decide
/-- R272: A is kept -/
theorem test_cp :
    after (at_ (fun c => { c with a := 0x3C, b := 0x2F }) [] 8 0xB8) afA = some ((0x3C, 0x60), 1) := by decide
/-- R279 -/
theorem test_daa :
    after (at_ (fun c => { c with a := 0x7D, f := 0x00 }) [] 8 0x27) afA = some ((0x83, 0x00), 1) := by decide
/-- R280 -/
theorem test_cpl :
    after (at_ (fun c => { c with a := 0x35, f := 0x00 }) [] 8 0x2F) afA = some ((0xCA, 0x60), 1) := by decide
/-- R281 -/
theorem test_scf :
    after (at_ (fun c => { c with a := 0x01, f := 0xE0 }) [] 8 0x37) afA = some ((0x01, 0x90), 1) := by decide
/-- R282 -/
theorem test_ccf :
    after (at_ (fun c => { c with a := 0x01, f := 0x70 }) [] 8 0x3F) afA = some ((0x01, 0x00), 1) := by decide
/-- R300 -/
theorem test_rlca :
    after (at_ (fun c => { c with a := 0x85 }) [] 8 0x07) afA = some ((0x0B, 0x10), 1) := by decide
/-- R301 -/
theorem test_rrca :
    after (at_ (fun c => { c with a := 0x3B }) [] 8 0x0F) afA = some ((0x9D, 0x10), 1) := by decide
/-- R302 -/
theorem test_rla :
    after (at_ (fun c => { c with a := 0x95, f := 0x10 }) [] 8 0x17) afA = some ((0x2B, 0x10), 1) := by decide
/-- R303 -/
theorem test_rra :
    after (at_ (fun c => { c with a := 0x81, f := 0x00 }) [] 8 0x1F) afA = some ((0x40, 0x10), 1) := by decide
/-- R275: C is kept -/
theorem test_inc_b :
    after (at_ (fun c => { c with b := 0x0F, f := 0x10 }) [] 8 0x04) (fun s => (s.cpu.b, s.cpu.f)) = some ((0x10, 0x30), 1) := by decide
/-- R276 -/
theorem test_inc_at_hl :
    after (at_ (fun c => { c with h := 0xC0, l := 0x00, f := 0x00 }) [(0xC000, 0xFF)] 8 0x34) (fun s => (cell 0xC000 s, s.cpu.f)) = some ((0x00, 0xA0), 3) := by decide
/-- R277 -/
theorem test_dec_a :
    after (at_ (fun c => { c with a := 0x10, f := 0x00 }) [] 8 0x3D) afA = some ((0x0F, 0x60), 1) := by decide
/-- R278 -/
theorem test_dec_at_hl :
    after (at_ (fun c => { c with h := 0xC0, l := 0x00, f := 0x10 }) [(0xC000, 0x01)] 8 0x35) (fun s => (cell 0xC000 s, s.cpu.f)) = some ((0x00, 0xD0), 3) := by decide
/-- R290: Z is kept -/
theorem test_add_hl_bc :
    after (at_ (fun c => { c with h := 0x8A, l := 0x23, b := 0x06, c := 0x05, f := 0x80 }) [] 8 0x09) (fun s => (s.cpu.hl, s.cpu.f)) = some ((0x9028, 0xA0), 2) := by decide
/-- R291 -/
theorem test_inc_de :
    after (at_ (fun c => { c with d := 0x00, e := 0xFF }) [] 8 0x13) (fun s => (s.cpu.d, s.cpu.e, s.cpu.f)) = some ((0x01, 0x00, 0xB0), 2) := by decide
/-- R292: no flag -/
theorem test_dec_bc :
    after (at_ (fun c => { c with b := 0x00, c := 0x01, f := 0x00 }) [] 8 0x0B) (fun s => (s.cpu.b, s.cpu.c, s.cpu.f)) = some ((0x00, 0x00, 0x00), 2) := by decide
/-- R293: SP - 8 -/
theorem test_add_sp_e :
    after (at_ (fun c => { c with sp := 0xFFF8 }) [] 16 0xF8E8) (fun s => (s.cpu.sp, s.cpu.f)) = some ((0xFFF0, 0x30), 4) := by decide
/-- R305 -/
theorem test_rlc_b :
    after (at_ (fun c => { c with b := 0x85 }) [] 16 0xCB00) (fun s => (s.cpu.b, s.cpu.f)) = some ((0x0B, 0x10), 2) := by decide
/-- R307 -/
theorem test_rrc_c :
    after (at_ (fun c => { c with c := 0x01 }) [] 16 0xCB09) (fun s => (s.cpu.c, s.cpu.f)) = some ((0x80, 0x10), 2) := by decide
/-- R309 -/
theorem test_rl_d :
    after (at_ (fun c => { c with d := 0x80, f := 0x00 }) [] 16 0xCB12) (fun s => (s.cpu.d, s.cpu.f)) = some ((0x00, 0x90), 2) := by decide
/-- R311 -/
theorem test_rr_e :
    after (at_ (fun c => { c with e := 0x01, f := 0x00 }) [] 16 0xCB1B) (fun s => (s.cpu.e, s.cpu.f)) = some ((0x00, 0x90), 2) := by decide
/-- R313 -/
theorem test_sla_h :
    after (at_ (fun c => { c with h := 0xFF }) [] 16 0xCB24) (fun s => (s.cpu.h, s.cpu.f)) = some ((0xFE, 0x10), 2) := by decide
/-- R315 -/
theorem test_sra_l :
    after (at_ (fun c => { c with l := 0x8A }) [] 16 0xCB2D) (fun s => (s.cpu.l, s.cpu.f)) = some ((0xC5, 0x00), 2) := by decide
/-- R317 -/
theorem test_swap_a :
    after (at_ (fun c => { c with a := 0xF0 }) [] 16 0xCB37) (fun s => (s.cpu.a, s.cpu.f)) = some ((0x0F, 0x00), 2) := by decide
/-- R319 -/
theorem test_srl_a :
    after (at_ (fun c => { c with a := 0x01 }) [] 16 0xCB3F) (fun s => (s.cpu.a, s.cpu.f)) = some ((0x00, 0x90), 2) := by decide
/-- R321 -/
theorem test_bit_7_h :
    after (at_ (fun c => { c with h := 0x80, f := 0x10 }) [] 16 0xCB7C) (fun s => (s.cpu.h, s.cpu.f)) = some ((0x80, 0x30), 2) := by decide
/-- R323 -/
theorem test_res_3_a :
    after (at_ (fun c => { c with a := 0xFF, f := 0x50 }) [] 16 0xCB9F) (fun s => (s.cpu.a, s.cpu.f)) = some ((0xF7, 0x50), 2) := by decide
/-- R325 -/
theorem test_set_0_b :
    after (at_ (fun c => { c with b := 0x00, f := 0x50 }) [] 16 0xCBC0) (fun s => (s.cpu.b, s.cpu.f)) = some ((0x01, 0x50), 2) := by decide
/-- R306 -/
theorem test_rlc_at_hl :
    after (at_ (fun c => { c with h := 0xC0, l := 0x00 }) [(0xC000, 0x85)] 16 0xCB06) (fun s => (cell 0xC000 s, s.cpu.f)) = some ((0x0B, 0x10), 4) := by decide
/-- R322 -/
theorem test_bit_0_at_hl :
    after (at_ (fun c => { c with h := 0xC0, l := 0x00, f := 0x00 }) [(0xC000, 0xFE)] 16 0xCB46) (fun s => s.cpu.f) = some (0xA0, 3) := by decide
/-- R326 -/
theorem test_set_7_at_hl :
    after (at_ (fun c => { c with h := 0xC0, l := 0x00 }) [] 16 0xCBFE) (cell 0xC000) = some (0x80, 4) := by decide
/-- R330 -/
theorem test_jp_nn :
    after (at_ (fun c => c) [] 24 0x150C3) (fun s => s.cpu.pc) = some (0x0150, 4) := by decide
/-- R331 -/
theorem test_jp_nz_not_taken :
    after (at_ (fun c => { c with f := 0x80, pc := 0x0200 }) [] 24 0x4000C2) (fun s => s.cpu.pc) = some (0x0203, 3) := by decide
/-- R331 -/
theorem test_jp_nz_taken :
    after (at_ (fun c => { c with f := 0x00, pc := 0x0200 }) [] 24 0x4000C2) (fun s => s.cpu.pc) = some (0x4000, 4) := by decide
/-- R332 -/
theorem test_jp_hl :
    after (at_ (fun c => { c with h := 0xC0, l := 0x00 }) [] 8 0xE9) (fun s => s.cpu.pc) = some (0xC000, 1) := by decide
/-- R333: back to itself -/
theorem test_jr_e :
    after (at_ (fun c => { c with pc := 0x0150 }) [] 16 0xFE18) (fun s => s.cpu.pc) = some (0x0150, 3) := by decide
/-- R334 -/
theorem test_jr_nz :
    after (at_ (fun c => { c with f := 0x00, pc := 0x0203 }) [] 16 0xFB20) (fun s => s.cpu.pc) = some (0x0200, 3) := by decide
/-- R335 -/
theorem test_call_nn :
    after (at_ (fun c => { c with pc := 0x0200 }) [] 24 0x1234CD) (fun s => (cell 0xFFFD s, cell 0xFFFC s, s.cpu.sp, s.cpu.pc)) = some ((0x02, 0x03, 0xFFFC, 0x1234), 6) := by decide
/-- R336 -/
theorem test_call_c_not_taken :
    after (at_ (fun c => { c with f := 0x00, pc := 0x0200 }) [] 24 0x1234DC) (fun s => (s.cpu.sp, s.cpu.pc)) = some ((0xFFFE, 0x0203), 3) := by decide
/-- R337 -/
theorem test_ret :
    after (at_ (fun c => { c with sp := 0xFFFC }) [(0xFFFC, 0x03), (0xFFFD, 0x02)] 8 0xC9) (fun s => (s.cpu.sp, s.cpu.pc)) = some ((0xFFFE, 0x0203), 4) := by decide
/-- R338 -/
theorem test_ret_z :
    after (at_ (fun c => { c with f := 0x80, sp := 0xFFFC }) [(0xFFFC, 0x03), (0xFFFD, 0x02)] 8 0xC8) (fun s => (s.cpu.sp, s.cpu.pc)) = some ((0xFFFE, 0x0203), 5) := by decide
/-- R339 -/
theorem test_reti :
    after (at_ (fun c => { c with sp := 0xFFFC }) [(0xFFFC, 0x03), (0xFFFD, 0x02)] 8 0xD9) (fun s => (s.cpu.sp, s.cpu.pc, s.cpu.ime)) = some ((0xFFFE, 0x0203, true), 4) := by decide
/-- R340 -/
theorem test_rst_28 :
    after (at_ (fun c => { c with pc := 0x0200 }) [] 8 0xEF) (fun s => (cell 0xFFFD s, cell 0xFFFC s, s.cpu.sp, s.cpu.pc)) = some ((0x02, 0x01, 0xFFFC, 0x0028), 4) := by decide
/-- R360 -/
theorem test_nop :
    after (at_ (fun c => c) [] 8 0x00) (fun s => s.cpu.pc) = some (0x0101, 1) := by decide
/-- R361: nothing is enabled at reset -/
theorem test_halt :
    after (at_ (fun c => c) [] 8 0x76) (fun s => s.cpu.run) = some (.halted, 1) := by decide
/-- R362: two bytes, DIV 0 -/
theorem test_stop :
    after (at_ (fun c => { c with pc := 0x0200 }) [] 16 0x10) (fun s => (s.cpu.pc, s.bus.timer.div16, s.cpu.run)) = some ((0x0202, 0x0000, .stopped), 1) := by decide
/-- R363 -/
theorem test_di :
    after (at_ (fun c => { c with ime := true }) [] 8 0xF3) (fun s => s.cpu.ime) = some (false, 1) := by decide
/-- R364: one instruction to go -/
theorem test_ei :
    after (at_ (fun c => c) [] 8 0xFB) (fun s => (s.cpu.ime, s.cpu.eiDelay)) = some ((false, 1), 1) := by decide
/-- R365 -/
theorem test_prefix :
    after (at_ (fun c => { c with a := 0xF0 }) [] 16 0xCB37) afA = some ((0x0F, 0x00), 2) := by decide
/-- R366, R405 -/
theorem test_illegal_dd :
    (match step (at_ (fun c => { c with pc := 0x0300 }) [] 8 0xDD) with
     | .fault (.unimplementedOpcode op addr t) => some (op, addr, t.cpu.pc, t.cpu.run)
     | _ => none) = some (0xDD, 0x0300, 0x0301, .faulted 0xDD 0x0300) := by decide

/-! ## Witnesses: states and operands that meet the hypotheses of the obligations, clause by clause -/

/-- The all-zero 32 KiB image, whose loading is `State.reset` (log entry 2). -/
def blank : Image := { length := 0x8000, bytes := [] }

theorem test_load_blank : (LoadArgs.default blank).load = .ok State.reset := rfl

/-- The reset state with the Cpu changed, and with the bus changed. -/
def cpuWith (g : Cpu → Cpu) : State := State.reset.mapCpu g

def busWith (g : Bus → Bus) : State := { State.reset with bus := g State.reset.bus }

/-- The reset state with IE set, so that the VBlank request that R602 leaves in IF is pending. -/
def pendingWith (g : Cpu → Cpu) : State :=
  { cpu := g State.reset.cpu, bus := { State.reset.bus with irq := { ie := 0xFF, iflag := 0b00001 } } }

/-- The reset state with a DMA state, a timer, a serial unit. -/
def dmaWith (d : DmaState) : Bus := { State.reset.bus with dma := { reg := 0xC0, st := d } }

def timerWith (tima tma : Byte) (ts : TimerState) : Bus :=
  { State.reset.bus with timer := { div16 := 0xABCC, tima := tima, tma := tma, tac := 0b101, tstate := ts } }

theorem witness_DecodeEncode : (Instr.ldSpNn 0xDFFF).wellFormed = true ∧ Instr.set7AtHl.wellFormed = true := by decide

theorem witness_DecodeInverse :
    decode [0xCE, 0x12, 0x00] = .ok (.adcAN 0x12, [0x00]) ∧ decode [0x10, 0x5A] = .ok (.stop, []) := ⟨rfl, rfl⟩

theorem witness_StepRunsDecoded :
    State.reset.Executes ∧ decode State.reset.fetchedBytes = .ok (.nop, []) ∧
    (∃ t, exec .nop State.reset.fetched = .next t) ∧
    decode (State.reset.withFetchWord 8 0xDD).fetchedBytes = .ok (.illegalDD, []) ∧
    (∃ x, exec .illegalDD (State.reset.withFetchWord 8 0xDD).fetched = .fault x) :=
  ⟨by decide, rfl, ⟨_, rfl⟩, rfl, ⟨_, rfl⟩⟩

theorem witness_FetchCycles : (cpuWith fun c => { c with haltBug := true }).cpu.haltBug = true := by decide

theorem witness_IllegalOpcode :
    (State.reset.withFetchWord 8 0xDD).Executes ∧ (State.reset.withFetchWord 8 0xDD).opByte ∈ illegalOpcodes ∧
    (cpuWith fun c => { c with run := .faulted 0xDD 0x0300 }).cpu.run = .faulted 0xDD 0x0300 := by decide

theorem witness_StoppedHold :
    let s := cpuWith fun c => { c with run := .stopped }
    let pressed := s.withButtons { State.reset.bus.joypad.buttons with start := true }
    s.cpu.run = .stopped ∧ s.Valid ∧ s.bus.joypad.lines = 0xF ∧
    pressed.cpu.run = .stopped ∧ pressed.Valid ∧ pressed.bus.joypad.lines ≠ 0xF := by decide

theorem witness_HaltedStep :
    let idle := cpuWith fun c => { c with run := .halted }
    let woken := pendingWith fun c => { c with run := .halted }
    idle.cpu.run = .halted ∧ idle.Valid ∧ idle.bus.pending = 0 ∧
    woken.cpu.run = .halted ∧ woken.Valid ∧ woken.bus.pending ≠ 0 := by decide

/-- The bus of a dispatch after its third M-cycle, as `Obligations.InterruptDispatch` names it. -/
def afterHighPush (s : State) : Bus :=
  (((s.bus.advance none).advance none).cpuWrite (s.cpu.sp - 1) (highByte s.cpu.pc)).advance (some (s.cpu.sp - 1))

/-- The lowest and the highest vector; and SP = 0x0000, whose high byte goes to IE and leaves nothing pending. -/
theorem witness_InterruptDispatch :
    let low := pendingWith fun c => { c with ime := true }
    let high : State :=
      { low with bus := { low.bus with irq := { ie := 0x10, iflag := 0b10000 } } }
    let none' := pendingWith fun c => { c with ime := true, sp := 0x0000, pc := 0x0200 }
    (low.cpu.run = .running ∧ low.Valid ∧ low.cpu.ime = true ∧ low.bus.pending ≠ 0 ∧
      (afterHighPush low).pending.getLsbD 0 = true) ∧
    (high.cpu.run = .running ∧ high.Valid ∧ high.cpu.ime = true ∧ high.bus.pending ≠ 0 ∧
      (afterHighPush high).pending = 0b10000) ∧
    (none'.cpu.run = .running ∧ none'.Valid ∧ none'.cpu.ime = true ∧ none'.bus.pending ≠ 0 ∧
      (afterHighPush none').pending = 0) := by decide

theorem witness_EiLatency :
    let s := State.reset.withFetchWord 8 0xFB
    let armed := cpuWith fun c => { c with eiDelay := 1 }
    let cancelled := armed.withFetchWord 8 0xF3
    (s.Executes ∧ s.cpu.ime = false ∧ s.cpu.eiDelay = 0 ∧ s.opByte = 0xFB) ∧
    (armed.cpu.run = .running ∧ armed.Valid ∧ armed.cpu.eiDelay = 1 ∧ armed.fetchedInstr ≠ .di) ∧
    (cancelled.cpu.run = .running ∧ cancelled.Valid ∧ cancelled.cpu.eiDelay = 1 ∧ cancelled.fetchedInstr = .di) := by
  decide

/-- The step of the reset state answers a next state. -/
theorem reset_steps : ∃ t, step State.reset = .next t := ⟨_, rfl⟩

theorem witness_StepKeepsInv : State.reset.Inv ∧ ∃ t, step State.reset = .next t := ⟨by decide, reset_steps⟩

theorem witness_LoadInv : ∃ s, (LoadArgs.default blank).load = .ok s := ⟨_, rfl⟩

theorem witness_ExecOutcomes :
    Instr.nop ∉ illegalInstrs.map Prod.fst ∧ (Instr.illegalDD, (0xDD : Byte)) ∈ illegalInstrs := by decide

theorem witness_StepOutcomes : State.reset.Valid ∧ (State.reset.withFetchWord 8 0xDD).Valid := by decide

theorem witness_ImeWriters :
    exec .nop State.reset = .next State.reset ∧ Instr.nop ≠ .ei ∧ Instr.nop ≠ .di ∧ Instr.nop ≠ .reti ∧
    Instr.nop ≠ .halt ∧ Instr.nop ≠ .stop := ⟨rfl, by decide⟩

theorem witness_FlagWriters :
    exec .nop State.reset = .next State.reset ∧ writesF .nop = false ∧ writesF .set7A = false ∧
    State.reset.cpu.FlagsSound := ⟨rfl, by decide⟩

theorem witness_SpWriters : exec .nop State.reset = .next State.reset ∧ writesSp .nop = false := ⟨rfl, by decide⟩

theorem witness_RomImmutable :
    State.reset.bus.mem.wf = true ∧ (∃ t, step State.reset = .next t) ∧ (0x7FFFFF : Nat) < 0x800000 :=
  ⟨rfl, reset_steps, by decide⟩

theorem witness_CycleCounts : State.reset.Executes ∧ ∃ t, step State.reset = .next t := ⟨by decide, reset_steps⟩

theorem witness_SessionConstants :
    let s := busWith fun b => { b with bootMapped := true, params := { b.params with bootRom := some [] } }
    ∃ t, step s = .next t ∧ t.bus.bootMapped = true := ⟨_, rfl, rfl⟩

/-- One byte stored at 0xC000, another byte of work RAM, and a byte of OAM where the DMA and the OAM bug are silent. -/
theorem witness_MemoryFrame :
    let s := at_ (fun c => { c with h := 0xC0, l := 0x00 }) [] 8 0x77
    let q : State := { s with bus := { s.bus with params := { s.bus.params with oamBug := .off } } }
    (∃ t, exec .ldAtHlA s = .next t) ∧ s.bus.mem.wf = true ∧ s.Valid ∧
    ¬ IsOamKey 0xC001 ∧ (∀ p ∈ storesOf .ldAtHlA s, p.1.bus.storeKey p.2 ≠ some 0xC001) ∧
    (∃ t, exec .ldAtHlA q = .next t) ∧ q.bus.mem.wf = true ∧ q.Valid ∧ IsOamKey 0xFE00 ∧ IsOamKey 0xFE9F ∧ q.bus.Quiet ∧
    (∀ p ∈ storesOf .ldAtHlA q, p.1.bus.storeKey p.2 ≠ some 0xFE00) :=
  ⟨⟨_, rfl⟩, by decide, by decide, by decide, by decide, ⟨_, rfl⟩, by decide, by decide, by decide, by decide, by decide,
   by decide⟩

theorem witness_LoadRegister : reg8OfCode 0 = some .b ∧ reg8OfCode 7 = some .a ∧ reg8OfCode 6 = none := by decide

theorem witness_PushPopRoundTrip :
    let s := cpuWith fun c => { c with sp := 0xFF82 }
    let u := cpuWith fun c => { c with sp := 0xFFFF }
    (s.bus.mem.wf = true ∧ s.Valid ∧ InHram (s.cpu.sp - 1) ∧ InHram (s.cpu.sp - 2)) ∧
    (u.bus.mem.wf = true ∧ u.Valid ∧ InHram (u.cpu.sp - 1) ∧ InHram (u.cpu.sp - 2)) := by decide

theorem witness_AddAdc : (0 : BitVec 3).toNat ≤ 1 ∧ (1 : BitVec 3).toNat ≤ 1 := by decide

theorem witness_SubSbcCp :
    ((2 : BitVec 3) = 2 ∨ (2 : BitVec 3) = 3 ∨ (2 : BitVec 3) = 7) ∧ ((3 : BitVec 3) = 2 ∨ (3 : BitVec 3) = 3 ∨ (3 : BitVec 3) = 7) ∧
    ((7 : BitVec 3) = 2 ∨ (7 : BitVec 3) = 3 ∨ (7 : BitVec 3) = 7) := by decide

theorem witness_IncDec : reg8OfCode 7 = some .a ∧ reg8OfCode 6 = none := by decide

/-- A = 0x99 and 0x9A, low nibble 9 and 10, with every flag combination that a clause names. -/
theorem witness_DaaMeaning :
    let f (a fl : Byte) := cpuWith fun c => { c with a := a, f := fl }
    let up (s : State) : Prop := s.cpu.flagC = true ∨ s.cpu.a.toNat > 0x99
    let low (s : State) : Prop := s.cpu.flagH = true ∨ s.cpu.a.toNat % 16 > 9
    ((f 0x99 0x00).cpu.flagN = false ∧ ¬ up (f 0x99 0x00) ∧ ¬ low (f 0x99 0x00)) ∧
    ((f 0x0A 0x00).cpu.flagN = false ∧ ¬ up (f 0x0A 0x00) ∧ low (f 0x0A 0x00)) ∧
    ((f 0xA0 0x00).cpu.flagN = false ∧ up (f 0xA0 0x00) ∧ ¬ low (f 0xA0 0x00)) ∧
    ((f 0x9A 0x00).cpu.flagN = false ∧ up (f 0x9A 0x00) ∧ low (f 0x9A 0x00)) ∧
    (f 0x00 0x40).cpu.flagN = true := by decide

theorem witness_DaaDecimal : (99 : Nat) < 100 ∧ (cpuWith fun c => { c with a := 0x99 }).cpu.a = bcd 99 := by decide

theorem witness_PrefixedRotates : reg8OfCode 7 = some .a ∧ reg8OfCode 6 = none := by decide

theorem witness_ResSet : reg8OfCode 7 = some .a ∧ reg8OfCode 6 = none := by decide

/-- Each flag 0 and 1, for the conditional jumps, calls and returns. -/
theorem witness_conditions :
    (cpuWith fun c => { c with f := 0x00 }).cpu.f.getLsbD 7 = false ∧
    (cpuWith fun c => { c with f := 0x80 }).cpu.f.getLsbD 7 = true ∧
    (cpuWith fun c => { c with f := 0x00 }).cpu.f.getLsbD 4 = false ∧
    (cpuWith fun c => { c with f := 0x10 }).cpu.f.getLsbD 4 = true := by decide

theorem witness_CallReturn :
    State.reset.bus.mem.wf = true ∧ State.reset.Valid ∧ InHram (State.reset.cpu.sp - 1) ∧ InHram (State.reset.cpu.sp - 2) := by
  decide

theorem witness_SystemInstructions :
    (State.reset.cpu.ime = false ∧ State.reset.cpu.eiDelay = 0) ∧
    (cpuWith fun c => { c with ime := true }).cpu.ime = true ∧
    (∀ k, k < 5 → State.reset.bus.irq.ie.getLsbD k = false ∨ State.reset.bus.irq.iflag.getLsbD k = false) ∧
    (let s := pendingWith id
     ∃ k, k < 5 ∧ s.bus.irq.ie.getLsbD k = true ∧ s.bus.irq.iflag.getLsbD k = true) :=
  ⟨by decide, by decide, by decide, ⟨0, by decide⟩⟩

/-- The first and last addresses of work RAM, echo and HRAM, which no DMA locks out at reset. -/
theorem witness_CpuStoreLoad :
    State.reset.bus.mem.wf = true ∧
    (State.reset.bus.dmaBlocks (0xC000 : Word) = false ∧ region (0xC000 : Word) = .wram ∧ State.reset.bus.dmaBlocks (0xDFFF : Word) = false ∧ region (0xDFFF : Word) = .wram) ∧
    (State.reset.bus.dmaBlocks (0xE000 : Word) = false ∧ region (0xE000 : Word) = .echo ∧ State.reset.bus.dmaBlocks (0xFDFF : Word) = false ∧ region (0xFDFF : Word) = .echo) ∧
    (State.reset.bus.dmaBlocks (0xFF80 : Word) = false ∧ region (0xFF80 : Word) = .hram ∧ State.reset.bus.dmaBlocks (0xFFFE : Word) = false ∧ region (0xFFFE : Word) = .hram) ∧
    State.reset.bus.storeKey 0x0000 ≠ some 0xC000 := by decide

theorem witness_DmaLockout :
    (dmaWith (.active 0xC0 159)).dma.st.blocksCpu = true ∧ (dmaWith (.starting 0xC0 2 true)).dma.st.blocksCpu = true ∧
    (0xFEFF : Word).toNat < 0xFF00 ∧ 0xFF00 ≤ (0xFF00 : Word).toNat ∧ (0xFF00 : Word) ≠ 0xFF46 ∧
    0xFF00 ≤ (0xFFFF : Word).toNat ∧ (0xFFFF : Word) ≠ 0xFF46 := by decide

theorem witness_DmaCopies :
    (dmaWith (.active 0xC0 0)).mem.wf = true ∧ (dmaWith (.active 0xC0 0)).dma.st = .active 0xC0 0 ∧
    (dmaWith (.active 0xDF 0)).dma.st = .active 0xDF 0 ∧ 0xC0 ≤ (0xC0 : Byte).toNat ∧ (0xDF : Byte).toNat ≤ 0xDF := by decide

theorem witness_TimerWindow :
    (timerWith 0 0 .overflowed).timer.tstate = .overflowed ∧ (timerWith 0 0 .reloaded).timer.tstate = .reloaded ∧
    (timerWith 0 0 .running).timer.tstate = .running := by decide

theorem witness_TimerRate :
    (timerWith 0xFE 0 .running).timer.tac = 0b101 ∧ (timerWith 0xFE 0 .running).timer.tstate = .running ∧
    (timerWith 0xFE 0 .running).timer.tima.toNat < 0xFF ∧
    (timerWith 0xFF 0 .running).timer.tima = 0xFF ∧ (timerWith 0xFF 0 .running).timer.tma = 0x00 := by decide

/-- The last dot of the frame, and the LCD off. -/
theorem witness_PpuFrame :
    let last := (busWith fun b => { b with ppu := { b.ppu with ly := 153, dot := 455 } }).bus
    let off := (busWith fun b => { b with ppu := { b.ppu with lcdc := 0x11 } }).bus
    (last.ppu.dot ≤ 455 ∧ last.ppu.ly ≤ 153 ∧ last.ppu.lcdOn = true) ∧
    (off.ppu.dot ≤ 455 ∧ off.ppu.ly ≤ 153 ∧ off.ppu.lcdOn = false) := by decide

theorem witness_StatLine : State.reset.bus.ppu.lcdOn = true ∧ (0x7F : Byte).toNat < 0x80 := by decide

theorem witness_SerialTransfer :
    (busWith fun b => { b with serial := { b.serial with start := true, internalClock := true, bits := 8 } }).bus.serial.bits = 8 := by
  decide

theorem witness_CartridgeBanks :
    1 ≤ State.reset.bus.cart.romBanks ∧
    ({ ramEn := false, bank1 := 1, bank2 := 0, mode := false } : Mbc1).bank1 ≠ 0 ∧
    ({ ramEn := false, romBank := 1 } : Mbc2).romBank ≠ 0 ∧
    ({ ramEn := false, romBank := 1, ramSel := 0, latchPrev := 0xFF, hasClock := false } : Mbc3).romBank ≠ 0 ∧
    (0x2000 ≤ (0x2000 : Word).toNat ∧ (0x2000 : Word).toNat ≤ 0x2FFF ∧ 0x2000 ≤ (0x2FFF : Word).toNat ∧ (0x2FFF : Word).toNat ≤ 0x2FFF) ∧
    ((0x0000 : Word).toNat ≤ 0x7FFF ∧ (0x7FFF : Word).toNat ≤ 0x7FFF) := by decide

/-- Turning the LCD on starts line 0 with the window line counter at 0 (60_exceptions.md R509, R524). -/
theorem test_lcd_on_window :
    (let b := State.reset.bus
     let off : Bus := { b with ppu := { b.ppu with lcdc := 0x11, wline := 5, ly := 0, dot := 0, mode := .hblank } }
     (off.cpuWrite 0xFF40 0x91).ppu.wline) = 0 := by decide

theorem witness_ResetValues :
    (∃ s, (LoadArgs.default blank).load = .ok s) ∧ (LoadArgs.default blank).params.bootRom = none := ⟨⟨_, rfl⟩, rfl⟩

/-- The canonical form of the reset memory (log entry 1). -/
theorem test_reset_memory : State.reset.bus.mem.wf = true := reset_mem_wf

/-- Two rejected images of 20_memory.md R119, and an accepted MBC1 one with its ROM and RAM sizes (R118). -/
theorem test_load_too_short : (match (LoadArgs.default { length := 0x14F, bytes := [] }).load with
    | .error e => some e
    | .ok _ => none) = some .tooShort := by decide

theorem test_load_mbc1 : (match (LoadArgs.default { length := 0x10000, bytes := [(0x147, 3), (0x148, 1), (0x149, 3)] }).load with
    | .ok s => some (s.bus.cart.romBanks, s.bus.cart.ramSize)
    | .error _ => none) = some (4, 0x8000) := by decide

/-- 95_test_vectors.md L2.13 (R122): MBC1's zero-to-one substitution looks at the five bits only. -/
theorem test_mbc1_zero_bank :
    (({ ramEn := false, bank1 := 5, bank2 := 0, mode := false } : Mbc1).controlWrite 0x2000 0x20).bank1 = 1 := by decide


end Sys2Proof.Tests
end

section
/-! PROOFS. 10_state.md, who writes F (R32, R39) and SP (R34). An instruction outside the two lists of opcodes leaves the
register as it is, and a writer of F leaves a byte whose low bits are 0. -/

namespace Sys2Proof.Machine

/-! The operations whose next state depends on a condition: what each can change of the Cpu. -/

theorem jumpIf_cpu {cc : Cond} {a : Word} {s t : State} (h : jumpIf cc a s = .next t) :
    t.cpu = { s.cpu with pc := t.cpu.pc } := by
  unfold jumpIf jumpTo at h
  split at h <;> (cases h; rfl)

theorem callIf_cpu {cc : Cond} {a : Word} {s t : State} (h : callIf cc a s = .next t) :
    t.cpu = { s.cpu with sp := t.cpu.sp, pc := t.cpu.pc } := by
  unfold callIf call at h
  split at h <;> (cases h; rfl)

theorem retIf_cpu {cc : Cond} {s t : State} (h : retIf cc s = .next t) :
    t.cpu = { s.cpu with sp := t.cpu.sp, pc := t.cpu.pc } := by
  unfold retIf at h
  split at h <;> (cases h; rfl)

theorem execHalt_cpu {s t : State} (h : execHalt s = .next t) :
    t.cpu = { s.cpu with run := t.cpu.run, haltBug := t.cpu.haltBug } := by
  unfold execHalt at h
  split at h
  · split at h <;> (cases h; rfl)
  · cases h; rfl

theorem execEi_cpu {s t : State} (h : execEi s = .next t) : t.cpu = { s.cpu with eiDelay := t.cpu.eiDelay } := by
  cases h
  simp only [State.mapCpu_cpu]
  split <;> rfl

theorem takeVector_cpu (p : BitVec 5) (s : State) :
    (s.takeVector p).cpu = { s.cpu with pc := (s.takeVector p).cpu.pc } := by
  unfold State.takeVector
  split <;> rfl

/-- The prefixed set by its field x (30_encoding.md R156, R164): the rotates, the shifts and BIT write F, RES and SET do
not. -/
theorem execPrefixCb_f {op2 : Byte} {s t : State} (h : execPrefixCb op2 s = .next t) :
    ((op2.extractLsb' 6 2).toNat < 2 ∧ t.cpu.FlagsSound) ∨
    (¬ (op2.extractLsb' 6 2).toNat < 2 ∧ t.cpu.f = s.cpu.f) := by
  unfold execPrefixCb at h
  dsimp only at h
  split at h
  case h_1 | h_2 | h_5 | h_6 => cases h; exact .inl ⟨by omega, packFlags_sound _ _ _ _⟩
  case h_3 => cases h; exact .inr ⟨by omega, Cpu.setReg_f _ _ _⟩
  case h_4 h0 h1 _ => cases h; rw [imp_false] at h0 h1; exact .inr ⟨by omega, Cpu.setReg_f _ _ _⟩
  case h_7 => cases h; exact .inr ⟨by omega, rfl⟩
  case h_8 h0 h1 _ => cases h; rw [imp_false] at h0 h1; exact .inr ⟨by omega, rfl⟩

theorem execPrefixCb_sp {op2 : Byte} {s t : State} (h : execPrefixCb op2 s = .next t) : t.cpu.sp = s.cpu.sp := by
  unfold execPrefixCb at h
  dsimp only at h
  split at h
  case h_1 | h_3 | h_4 => cases h; exact Cpu.setReg_sp _ _ _
  case h_2 | h_5 | h_6 | h_7 | h_8 => cases h; rfl

theorem writesF_prefixCb (op2 : Byte) :
    writesF (.prefixCb op2) = decide ((op2.extractLsb' 6 2).toNat < 2) := by
  have hlt := op2.isLt
  have hx : (op2.extractLsb' 6 2).toNat = op2.toNat / 64 % 4 := by simp [Nat.shiftRight_eq_div_pow]
  change decide (op2.toNat < 0x80) = _
  rw [hx, decide_eq_decide]
  omega

/-- The byte that POP AF stores in F (41_load16.md R236). -/
theorem and_F0_low (v : Byte) : (v &&& 0xF0).extractLsb' 0 4 = 0#4 := by
  ext k hk
  interval_cases k <;> simp

/-! One pass over the instructions for each register. `cases hw` ends the cases on the other side of the opcode list, and
`cases h` ends the illegal opcodes, which answer no next state. -/

theorem exec_f_of_not_writesF {i : Instr} {s t : State} (h : exec i s = .next t) (hw : writesF i = false) :
    t.cpu.f = s.cpu.f := by
  cases i
  case prefixCb op2 =>
    rw [writesF_prefixCb, decide_eq_false_iff_not] at hw
    exact ((execPrefixCb_f h).resolve_left fun hx => hw hx.1).2
  all_goals cases hw
  case jrNzE | jrZE | jrNcE | jrCE | jpNzNn | jpZNn | jpNcNn | jpCNn => rw [jumpIf_cpu h]
  case callNzNn | callZNn | callNcNn | callCNn => rw [callIf_cpu h]
  case retNz | retZ | retNc | retC => rw [retIf_cpu h]
  case halt => rw [execHalt_cpu h]
  case ei => rw [execEi_cpu h]
  all_goals cases h
  all_goals rfl

/-- A writer's F is built by `packFlags`, but for POP AF's. -/
theorem exec_flagsSound_of_writesF {i : Instr} {s t : State} (h : exec i s = .next t) (hw : writesF i = true) :
    t.cpu.FlagsSound := by
  cases i
  case prefixCb op2 =>
    rw [writesF_prefixCb, decide_eq_true_eq] at hw
    exact ((execPrefixCb_f h).resolve_right fun hx => hx.1 hw).2
  all_goals cases hw
  case popAf => cases h; exact and_F0_low _
  all_goals cases h
  all_goals exact packFlags_sound _ _ _ _

theorem exec_flagsSound {i : Instr} {s t : State} (h : exec i s = .next t) (hs : s.cpu.FlagsSound) :
    t.cpu.FlagsSound := by
  cases hw : writesF i
  case false => rwa [Cpu.FlagsSound, exec_f_of_not_writesF h hw]
  case true => exact exec_flagsSound_of_writesF h hw

theorem dispatch_f (s : State) : s.dispatch.cpu.f = s.cpu.f := by
  change (State.takeVector _ _).cpu.f = _
  rw [takeVector_cpu]
  rfl

theorem exec_sp_of_not_writesSp {i : Instr} {s t : State} (h : exec i s = .next t) (hw : writesSp i = false) :
    t.cpu.sp = s.cpu.sp := by
  cases i
  all_goals cases hw
  case prefixCb => exact execPrefixCb_sp h
  case jrNzE | jrZE | jrNcE | jrCE | jpNzNn | jpZNn | jpNcNn | jpCNn => rw [jumpIf_cpu h]
  case halt => rw [execHalt_cpu h]
  case ei => rw [execEi_cpu h]
  all_goals cases h
  all_goals rfl

/-- Settles O17: the non-writers keep F, the writers build it with its low bits 0, and a dispatch changes pc, SP and the
interrupt state only. -/
theorem flagWriters : Obligations.FlagWriters :=
  ⟨fun _ _ _ h => ⟨exec_f_of_not_writesF h, exec_flagsSound h⟩, dispatch_f⟩

/-- Settles O18, instruction by instruction. -/
theorem spWriters : Obligations.SpWriters := fun _ _ _ => exec_sp_of_not_writesSp

end Sys2Proof.Machine
end

section
/-! PROOFS. 20_memory.md, the cartridge: the checks of loading (R119) and the banks (R107 to R128). -/

namespace Sys2Proof.Machine

theorem ramSizeOfCode_eq_none (n : Byte) : ramSizeOfCode n = none ↔ 5 < n.toNat := by
  unfold ramSizeOfCode
  split
  case h_7 => simp only [imp_false, true_iff] at *; omega
  all_goals simp only [reduceCtorEq, false_iff]; omega

theorem headerRam_eq_none (k : MbcKind) (code : Byte) : headerRam k code = none ↔ k ≠ .mbc2 ∧ 5 < code.toNat := by
  cases k
  case mbc2 => simp [headerRam]
  all_goals simp [headerRam, ramSizeOfCode_eq_none]

/-- The checks of R119 in the order of `Header.cart`, each read as its condition. -/
theorem Header.cart_error_iff (h : Header) (len : Nat) (supported : List MbcKind) :
    (∃ e, h.cart len supported = .error e) ↔
      len < 0x150 ∨ 8 < h.romCode.toNat ∨ len ≠ 0x8000 * 2 ^ h.romCode.toNat ∨
      mbcOfType h.type = none ∨ (∃ k, mbcOfType h.type = some k ∧ k ∉ supported) ∨
      (mbcOfType h.type ≠ some .mbc2 ∧ 5 < h.ramCode.toNat) ∨ (h.type = 0x00 ∧ h.romCode ≠ 0) := by
  unfold Header.cart
  split
  case isTrue hlen => simp [hlen]
  case isFalse hlen =>
  split
  case isTrue hcode => simp [hcode]
  case isFalse hcode =>
  split
  case isTrue hsize => simp [hsize]
  case isFalse hsize =>
  cases htype : mbcOfType h.type with
  | none => simp
  | some k =>
    dsimp only
    split
    case isTrue hk => simp [hk]
    case isFalse hk =>
    split
    case h_1 hram => simp [(headerRam_eq_none k h.ramCode).mp hram]
    case h_2 ram hram =>
      have hsome : ¬ (k ≠ .mbc2 ∧ 5 < h.ramCode.toNat) := fun hn => by
        simp [(headerRam_eq_none k h.ramCode).mpr hn] at hram
      split
      case isTrue hrom => exact iff_of_true ⟨_, rfl⟩ (by simp only [hrom, true_and, ne_eq, not_false_eq_true, or_true])
      case isFalse hrom => simp_all

theorem LoadArgs.load_error_iff (args : LoadArgs) :
    (∃ e, args.load = .error e) ↔ ∃ e, args.image.header.cart args.image.length args.supported = .error e := by
  unfold LoadArgs.load
  split
  case h_1 => simp_all
  case h_2 => split <;> simp_all

/-- Settles O59: loading fails exactly where the header's checks do, and they test the listed reasons in turn. -/
theorem loadChecks : Obligations.LoadChecks := fun args =>
  args.load_error_iff.trans (Header.cart_error_iff _ _ _)

/-- The bank is masked by `rom_banks - 1` and the byte in it by 0x3FFF (R110). -/
theorem Cart.romOffset_lt (c : Cart) (a : Word) (h : 1 ≤ c.romBanks) : c.romOffset a < c.romBanks * 0x4000 := by
  have hbank : c.scheme.romBank a &&& (c.romBanks - 1) ≤ c.romBanks - 1 := Nat.and_le_right
  have hbyte : a.toNat &&& 0x3FFF ≤ 0x3FFF := Nat.and_le_right
  unfold Cart.romOffset
  omega

/-- This is all that keeps the banks of MBC1, MBC2 and MBC3 from 0 (R122, R124, R125). -/
theorem zeroToOne_ne_zero {w : Nat} (hw : 0 < w) (v : BitVec w) : zeroToOne v ≠ 0 := by
  unfold zeroToOne
  split
  · simpa using hw.ne'
  · assumption

theorem Mbc1.controlWrite_bank1_ne_zero (r : Mbc1) (a : Word) (v : Byte) (h : r.bank1 ≠ 0) :
    (r.controlWrite a v).bank1 ≠ 0 := by
  unfold Mbc1.controlWrite
  repeat' split
  case isFalse.isTrue => exact zeroToOne_ne_zero (by decide) _
  all_goals exact h

theorem Mbc2.controlWrite_romBank_ne_zero (r : Mbc2) (a : Word) (v : Byte) (h : r.romBank ≠ 0) :
    (r.controlWrite a v).romBank ≠ 0 := by
  unfold Mbc2.controlWrite
  repeat' split
  case isTrue.isTrue => exact zeroToOne_ne_zero (by decide) _
  all_goals exact h

theorem Mbc3.controlWrite_romBank_ne_zero (r : Mbc3) (a : Word) (v : Byte) (h : r.romBank ≠ 0) :
    (r.controlWrite a v).romBank ≠ 0 := by
  unfold Mbc3.controlWrite
  repeat' split
  case isFalse.isTrue => exact zeroToOne_ne_zero (by decide) _
  all_goals exact h

/-- MBC5 takes bank 0 as it is: the low eight bits are the byte written (R128). -/
theorem Mbc5.controlWrite_low_bank (r : Mbc5) (a : Word) (v : Byte) (h : 0x2000 ≤ a.toNat) (h' : a.toNat ≤ 0x2FFF) :
    (r.controlWrite a v).romBank.toNat = r.romBank.toNat / 256 * 256 + v.toNat := by
  have hb := r.romBank.isLt
  have hv := v.isLt
  unfold Mbc5.controlWrite
  rw [if_neg (by omega), if_pos h']
  change (r.romBank.extractLsb' 8 1 ++ v).toNat = _
  rw [BitVec.toNat_append, ← Nat.shiftLeft_add_eq_or_of_lt hv, BitVec.extractLsb'_toNat, Nat.shiftLeft_eq,
    Nat.shiftRight_eq_div_pow]
  omega

theorem region_eq_rom {a : Word} (h : a.toNat ≤ 0x7FFF) : region a = .rom := if_pos h

theorem Bus.storeKey_rom (b : Bus) {a : Word} (h : region a = .rom) : b.storeKey a = none := by
  simp [Bus.storeKey, h]

theorem Bus.cpuWrite_rom_mem (b : Bus) {a : Word} (v : Byte) (h : a.toNat ≤ 0x7FFF) : (b.cpuWrite a v).mem = b.mem := by
  rw [Bus.cpuWrite_side b a v (b.storeKey_rom (region_eq_rom h)), Bus.sideWrite_mem]

/-- Settles O58, clause by clause. -/
theorem cartridgeBanks : Obligations.CartridgeBanks :=
  ⟨Cart.romOffset_lt, Mbc1.controlWrite_bank1_ne_zero, Mbc2.controlWrite_romBank_ne_zero,
    Mbc3.controlWrite_romBank_ne_zero, Mbc5.controlWrite_low_bank, fun b _ v h => b.cpuWrite_rom_mem v h⟩

end Sys2Proof.Machine
end

section
/-! PROOFS. 20_memory.md, the Cpu's view of the bus: the DMA lockout (R89, R100) and RAM with its echo (R87, R101, R102). -/

namespace Sys2Proof.Machine

/-- The bus with another DMA state (R54). Every write but the DMA register's commutes with it. -/
def Bus.withDma (b : Bus) (d : Dma) : Bus := { b with dma := d }

theorem Bus.serialShiftEdge_withDma (b : Bus) (d : Dma) :
    (b.withDma d).serialShiftEdge = b.serialShiftEdge.withDma d := by
  unfold Bus.serialShiftEdge Bus.withDma
  dsimp only
  repeat' split
  all_goals rfl

theorem Bus.withDma_ite (p : Prop) [Decidable p] (x y : Bus) (d : Dma) :
    (if p then x else y).withDma d = if p then x.withDma d else y.withDma d :=
  apply_ite (Bus.withDma · d) p x y

theorem Bus.setDivider_withDma (b : Bus) (d : Dma) (w : Word) :
    (b.withDma d).setDivider w = (b.setDivider w).withDma d := by
  unfold Bus.setDivider
  dsimp only
  rw [Bus.withDma_ite, ← Bus.serialShiftEdge_withDma, Bus.withDma_ite]
  rfl

theorem Bus.updateStatLine_withDma (b : Bus) (d : Dma) :
    (b.withDma d).updateStatLine = b.updateStatLine.withDma d := by
  unfold Bus.updateStatLine
  dsimp only
  rw [Bus.withDma_ite]
  rfl

theorem Bus.writeLcdc_withDma (b : Bus) (d : Dma) (v : Byte) :
    (b.withDma d).writeLcdc v = (b.writeLcdc v).withDma d := by
  unfold Bus.writeLcdc
  dsimp only
  rw [Bus.withDma_ite, Bus.withDma_ite, ← Bus.updateStatLine_withDma, ← Bus.updateStatLine_withDma]
  rfl

theorem Bus.writeStat_withDma (b : Bus) (d : Dma) (v : Byte) :
    (b.withDma d).writeStat v = (b.writeStat v).withDma d :=
  Bus.updateStatLine_withDma { b with ppu := { b.ppu with statSel := v.extractLsb' 3 4 } } d

theorem Bus.writeLyc_withDma (b : Bus) (d : Dma) (v : Byte) :
    (b.withDma d).writeLyc v = (b.writeLyc v).withDma d :=
  Bus.updateStatLine_withDma { b with ppu := { b.ppu with lyc := v } } d

theorem Bus.ioWrite_withDma (b : Bus) (d : Dma) {a : Word} (v : Byte) (ha : a ≠ 0xFF46) :
    (b.withDma d).ioWrite a v = (b.ioWrite a v).withDma d := by
  unfold Bus.ioWrite
  split
  · rfl
  split
  case h_4 => exact b.setDivider_withDma d 0
  case h_9 => exact b.writeLcdc_withDma d v
  case h_10 => exact b.writeStat_withDma d v
  case h_13 => exact b.writeLyc_withDma d v
  case h_14 h => exact absurd (BitVec.eq_of_toNat_eq h) ha
  case h_20 => split <;> rfl
  all_goals rfl

theorem region_high {a : Word} (h : 0xFF00 ≤ a.toNat) : region a = .io ∨ region a = .hram ∨ region a = .ie := by
  unfold region
  repeat rw [if_neg (by omega)]
  split
  · exact .inl rfl
  split
  · exact .inr (.inl rfl)
  · exact .inr (.inr rfl)

theorem Bus.dmaBlocks_high (b : Bus) {a : Word} (h : 0xFF00 ≤ a.toNat) : b.dmaBlocks a = false := by
  simp [Bus.dmaBlocks, h]

theorem Bus.cpuWrite_io (b : Bus) {a : Word} (v : Byte) (h : 0xFF00 ≤ a.toNat) (hr : region a = .io) :
    b.cpuWrite a v = b.ioWrite a v := by
  simp [Bus.cpuWrite, Bus.storeKey, Bus.sideWrite, b.dmaBlocks_high h, hr]

theorem Bus.cpuRead_withDma_st (b : Bus) {a : Word} (st : DmaState) (h : 0xFF00 ≤ a.toNat) :
    (b.withDma { b.dma with st := st }).cpuRead a = b.cpuRead a := by
  simp only [Bus.cpuRead, Bus.dmaBlocks_high _ h]
  rfl

theorem Bus.cpuWrite_withDma (b : Bus) (d : Dma) {a : Word} (v : Byte) (h : 0xFF00 ≤ a.toNat) (ha : a ≠ 0xFF46) :
    (b.withDma d).cpuWrite a v = (b.cpuWrite a v).withDma d := by
  rcases region_high h with hr | hr | hr
  · rw [Bus.cpuWrite_io _ v h hr, Bus.cpuWrite_io _ v h hr, Bus.ioWrite_withDma b d v ha]
  · have hk (x : Bus) : x.storeKey a = some a.toNat := by simp [Bus.storeKey, x.dmaBlocks_high h, hr]
    rw [Bus.cpuWrite_store _ a v (hk _), Bus.cpuWrite_store _ a v (hk _)]
    rfl
  · simp only [Bus.cpuWrite, Bus.storeKey, Bus.sideWrite, Bus.dmaBlocks_high _ h, hr]
    rfl

theorem Bus.cpuWrite_dma_eq (b : Bus) {a : Word} (v : Byte) (h : 0xFF00 ≤ a.toNat) (ha : a ≠ 0xFF46) :
    (b.cpuWrite a v).dma = b.dma := by
  change ((b.withDma b.dma).cpuWrite a v).dma = b.dma
  rw [b.cpuWrite_withDma b.dma v h ha]
  rfl

theorem Bus.locked_out (b : Bus) {a : Word} (v : Byte) (h : b.dmaBlocks a = true) :
    b.cpuRead a = b.params.openBus ∧ b.cpuWrite a v = b := by
  simp [Bus.cpuRead, Bus.cpuWrite, Bus.storeKey, Bus.sideWrite, h]

theorem DmaState.blocksCpu_iff (st : DmaState) :
    st.blocksCpu = true ↔ (∃ src i, st = .active src i) ∨ (∃ src n, st = .starting src n true) := by
  cases st <;> simp [DmaState.blocksCpu]

/-- Settles O50: from 0xFF00 on an access does not look at the DMA state, but for a write to the DMA register. -/
theorem dmaLockout : Obligations.DmaLockout := by
  intro b a v
  refine ⟨b.dma.st.blocksCpu_iff, fun hb ha => b.locked_out v (by simp [Bus.dmaBlocks, hb, ha]), ?_,
    b.cpuWrite_io v (by decide) rfl⟩
  intro idle ha
  refine ⟨(b.cpuRead_withDma_st .idle ha).symm, fun hne => ?_⟩
  have hd := b.cpuWrite_dma_eq v ha hne
  refine ⟨hd, ?_⟩
  calc idle (b.cpuWrite a v) = (b.cpuWrite a v).withDma { b.dma with st := .idle } := by rw [← hd]; rfl
    _ = (idle b).cpuWrite a v := (b.cpuWrite_withDma _ v ha hne).symm

/-- The addresses of work RAM, its echo and HRAM (R81, R101, R102). -/
def IsRam (a : Word) : Prop := region a = .wram ∨ region a = .echo ∨ region a = .hram

/-- The key of the byte that a RAM address names, the echo's being that of work RAM (R101). -/
def ramKey (a : Word) : Nat := if region a = .echo then wramKey (a.toNat - 0xE000) else a.toNat

theorem Bus.storeKey_ram (b : Bus) {a : Word} (hb : b.dmaBlocks a = false) (hr : IsRam a) :
    b.storeKey a = some (ramKey a) := by
  rcases hr with hr | hr | hr <;> simp [Bus.storeKey, ramKey, hb, hr]

theorem Bus.cpuRead_ram (b : Bus) {a : Word} (hb : b.dmaBlocks a = false) (hr : IsRam a) :
    b.cpuRead a = b.mem.read (ramKey a) := by
  rcases hr with hr | hr | hr <;> simp [Bus.cpuRead, ramKey, hb, hr]

theorem Bus.storeByte_ram (b : Bus) {a : Word} (v : Byte) (hr : IsRam a) : b.storeByte a v = v := by
  rcases hr with hr | hr | hr <;> simp [Bus.storeByte, hr]

/-- What is written at a RAM address is read at every address of the same byte. -/
theorem Bus.cpuRead_cpuWrite_ram (b : Bus) {a a' : Word} (v : Byte) (w : b.mem.wf = true)
    (hb : b.dmaBlocks a = false) (hr : IsRam a) (hb' : b.dmaBlocks a' = false) (hr' : IsRam a')
    (hk : ramKey a' = ramKey a) : (b.cpuWrite a v).cpuRead a' = v := by
  have hs := b.storeKey_ram hb hr
  have hu : (b.cpuWrite a v).dmaBlocks a' = false := by rw [Bus.cpuWrite_store b a v hs]; exact hb'
  rw [Bus.cpuRead_ram _ hu hr', hk, Bus.cpuWrite_read_same b a v w hs, Bus.storeByte_ram b v hr]

theorem region_eq_echo_iff (a : Word) : region a = .echo ↔ 0xE000 ≤ a.toNat ∧ a.toNat ≤ 0xFDFF := by
  unfold region
  repeat' split
  all_goals simp only [reduceCtorEq, false_iff, true_iff]
  all_goals omega

theorem region_eq_wram {a : Word} (h : 0xC000 ≤ a.toNat) (h' : a.toNat ≤ 0xDFFF) : region a = .wram := by
  unfold region
  rw [if_neg (by omega), if_neg (by omega), if_neg (by omega), if_pos h']

/-- A transfer locks out every address below 0xFF00 or none (R100). -/
theorem Bus.dmaBlocks_eq_false_of_below (b : Bus) {a a' : Word} (ha : a.toNat < 0xFF00) (hb : b.dmaBlocks a = false) :
    b.dmaBlocks a' = false := by
  have : b.dma.st.blocksCpu = false := by simpa [Bus.dmaBlocks, ha] using hb
  simp [Bus.dmaBlocks, this]

/-- An echo address and the work RAM address 0x2000 below it name the same byte (R101). -/
theorem ramKey_echo {a : Word} (h : region a = .echo) : IsRam (a - 0x2000) ∧ ramKey (a - 0x2000) = ramKey a := by
  obtain ⟨hlo, hhi⟩ := (region_eq_echo_iff a).mp h
  have hsub : (a - 0x2000).toNat = a.toNat - 0x2000 := by
    rw [BitVec.toNat_sub_of_le (by rw [BitVec.le_def]; exact Nat.le_trans (by decide) hlo)]
    rfl
  have hw : region (a - 0x2000) = .wram := region_eq_wram (by omega) (by omega)
  refine ⟨.inl hw, ?_⟩
  unfold ramKey wramKey
  rw [if_pos h, if_neg (by rw [hw]; decide), hsub]
  omega

/-- Settles O49: a store changes one key, and the two addresses of a byte have one key. -/
theorem cpuStoreLoad : Obligations.CpuStoreLoad := by
  intro b a v w
  refine ⟨b.cpuWrite_wf a v w, fun k hk => b.cpuWrite_read_other a v w hk,
    fun hb hr => b.cpuRead_cpuWrite_ram v w hb hr hb hr rfl, fun hb he => ?_⟩
  obtain ⟨hr', hk⟩ := ramKey_echo he
  have ha : a.toNat < 0xFF00 := by have := (region_eq_echo_iff a).mp he; omega
  exact b.cpuRead_cpuWrite_ram v w hb (.inr (.inl he)) (b.dmaBlocks_eq_false_of_below ha hb) hr' hk

end Sys2Proof.Machine
end

section
/-! PROOFS. What no step changes: the constants of the session (20_memory.md R119, 10_state.md R49,
70_reset_and_hazards.md R601) and the ROM image (20_memory.md R107). -/

namespace Sys2Proof.Machine

/-- `b'` has the session constants of `b` (R119, 10_state.md R49), and maps the boot ROM at most where `b` does (R601). -/
structure Bus.SameSession (b b' : Bus) : Prop where
  params : b'.params = b.params
  romBanks : b'.cart.romBanks = b.cart.romBanks
  ramSize : b'.cart.ramSize = b.cart.ramSize
  buttons : b'.joypad.buttons = b.joypad.buttons
  bootMapped : b'.bootMapped = true → b.bootMapped = true

theorem Bus.SameSession.refl (b : Bus) : b.SameSession b := ⟨rfl, rfl, rfl, rfl, id⟩

theorem Bus.SameSession.trans {b₁ b₂ b₃ : Bus} (h : b₁.SameSession b₂) (h' : b₂.SameSession b₃) : b₁.SameSession b₃ :=
  ⟨h'.params.trans h.params, h'.romBanks.trans h.romBanks, h'.ramSize.trans h.ramSize, h'.buttons.trans h.buttons,
    h.bootMapped ∘ h'.bootMapped⟩

/-- An operation that leaves these parts alone keeps the constants. -/
theorem Bus.SameSession.of_parts {b b' : Bus} (hp : b'.params = b.params) (hc : b'.cart = b.cart)
    (hj : b'.joypad.buttons = b.joypad.buttons) (hm : b'.bootMapped = b.bootMapped) : b.SameSession b' :=
  ⟨hp, by rw [hc], by rw [hc], hj, by rw [hm]; exact id⟩

theorem Bus.advance_sameSession (b : Bus) (x : Option Word) : b.SameSession (b.advance x) :=
  .of_parts (by simp) (by simp) (by simp) (by simp)

theorem Bus.setDivider_sameSession (b : Bus) (d : Word) : b.SameSession (b.setDivider d) :=
  .of_parts (by simp) (by simp) (by simp) (by simp)

theorem Bus.SameSession.updateStatLine {b b' : Bus} (h : b.SameSession b') : b.SameSession b'.updateStatLine :=
  h.trans (.of_parts (by simp) (by simp) (by simp) (by simp))

theorem Bus.writeLcdc_sameSession (b : Bus) (v : Byte) : b.SameSession (b.writeLcdc v) :=
  .of_parts (b.writeLcdc_params v) (b.writeLcdc_cart v) (by rw [Bus.writeLcdc_joypad]) (b.writeLcdc_bootMapped v)

/-- 0xFF50 can only unmap the boot ROM (R601); the other registers are those of devices. -/
theorem Bus.ioWrite_sameSession (b : Bus) (a : Word) (v : Byte) : b.SameSession (b.ioWrite a v) := by
  unfold Bus.ioWrite
  split
  · exact .of_parts rfl rfl rfl rfl
  split
  case h_4 => exact b.setDivider_sameSession 0
  case h_9 => exact b.writeLcdc_sameSession v
  case h_10 | h_13 => exact .updateStatLine (.of_parts rfl rfl rfl rfl)
  case h_20 =>
    split
    · exact ⟨rfl, rfl, rfl, rfl, fun h => Bool.noConfusion h⟩
    · exact .refl b
  all_goals exact .of_parts rfl rfl rfl rfl

/-- A control write changes the registers of the scheme, not the sizes (R110). -/
theorem Bus.controlWrite_sameSession (b : Bus) (a : Word) (v : Byte) : b.SameSession (b.controlWrite a v) := by
  unfold Bus.controlWrite
  dsimp only
  split <;> exact ⟨rfl, rfl, rfl, rfl, id⟩

theorem Bus.ramControlWrite_sameSession (b : Bus) (a : Word) (v : Byte) : b.SameSession (b.ramControlWrite a v) := by
  unfold Bus.ramControlWrite
  split <;> exact .of_parts rfl rfl rfl rfl

theorem Bus.sideWrite_sameSession (b : Bus) (a : Word) (v : Byte) : b.SameSession (b.sideWrite a v) := by
  unfold Bus.sideWrite
  split
  · exact .refl b
  split
  · exact b.controlWrite_sameSession a v
  · exact b.ramControlWrite_sameSession a v
  · exact b.ioWrite_sameSession a v
  all_goals exact .of_parts rfl rfl rfl rfl

theorem Bus.cpuWrite_sameSession (b : Bus) (a : Word) (v : Byte) : b.SameSession (b.cpuWrite a v) :=
  Bus.cpuWrite_cases b a v b.SameSession (fun _ _ => .of_parts rfl rfl rfl rfl) (b.sideWrite_sameSession a v)

/-- Settles O21: every operation of a step keeps the session. -/
theorem sessionConstants : Obligations.SessionConstants := by
  intro s t hstep
  obtain ⟨hp, hb, hr, hj, hm⟩ : s.bus.SameSession t.bus :=
    step_bus s.bus.SameSession
      (fun b x h => h.trans (b.advance_sameSession x)) (fun b a v h => h.trans (b.cpuWrite_sameSession a v))
      (fun b h => h.trans (b.setDivider_sameSession 0)) (fun _ _ h => h.trans (.of_parts rfl rfl rfl rfl))
      s t hstep (.refl _)
  exact ⟨hp, hb, hr, hj, hm⟩

/-- A sound bus whose byte at key `k` reads `r`. -/
def Bus.Reads (k : Nat) (r : Byte) (b : Bus) : Prop := b.mem.wf = true ∧ b.Valid ∧ b.mem.read k = r

theorem Bus.Valid.active_le {b : Bus} (h : b.Valid) (src : Byte) (i : Nat) (hi : b.dma.st = .active src i) : i ≤ 159 := by
  have hd := h.1
  rw [hi] at hd
  exact hd

theorem Bus.Reads.advance {k : Nat} {r : Byte} {b : Bus} (x : Option Word) (h : b.Reads k r) (hk : ¬ IsOamKey k) :
    (b.advance x).Reads k r := by
  obtain ⟨hw, hv, hr⟩ := h
  exact ⟨b.advance_wf x hw, b.advance_valid x hv,
    (b.advance_read x hw hv.active_le k (by unfold IsOamKey at hk; omega)).trans hr⟩

theorem Bus.Reads.cpuWrite {k : Nat} {r : Byte} {b : Bus} (a : Word) (v : Byte) (h : b.Reads k r)
    (hs : b.storeKey a ≠ some k) : (b.cpuWrite a v).Reads k r := by
  obtain ⟨hw, hv, hr⟩ := h
  exact ⟨b.cpuWrite_wf a v hw, b.cpuWrite_valid a v hv, (b.cpuWrite_read_other a v hw hs).trans hr⟩

theorem Bus.Reads.setDivider {k : Nat} {r : Byte} {b : Bus} (d : Word) (h : b.Reads k r) :
    (b.setDivider d).Reads k r := by
  obtain ⟨hw, hv, hr⟩ := h
  exact ⟨by rwa [Bus.setDivider_mem], b.setDivider_valid d hv, by rwa [Bus.setDivider_mem]⟩

/-- No Cpu store reaches the key of a ROM image byte: external RAM lies above, everything else below (R107). -/
theorem Bus.storeKey_ne_romKey (b : Bus) (a : Word) {o : Nat} (ho : o < 0x800000) : b.storeKey a ≠ some (romKey o) := by
  have ha := a.isLt
  unfold Bus.storeKey romKey extRamKey wramKey
  repeat' split
  all_goals simp only [ne_eq, reduceCtorEq, not_false_eq_true, Option.some.injEq]
  all_goals omega

theorem not_isOamKey_romKey (o : Nat) : ¬ IsOamKey (romKey o) := by
  unfold IsOamKey romKey
  omega

/-- Settles O19: the devices write OAM alone and a Cpu store has no key of the image. -/
theorem romImmutable : Obligations.RomImmutable := by
  intro s t o hw hstep ho
  have hv : s.bus.Valid := ((State.valid_iff s).mp (step_cases hstep).1).2
  have ht : t.bus.Reads (romKey o) (s.bus.mem.read (romKey o)) :=
    step_bus (Bus.Reads (romKey o) _)
      (fun _ x h => h.advance x (not_isOamKey_romKey o)) (fun b a v h => h.cpuWrite a v (b.storeKey_ne_romKey a ho))
      (fun _ h => h.setDivider 0) (fun _ _ h => h) s t hstep ⟨hw, hv, rfl⟩
  exact ht.2.2

end Sys2Proof.Machine
end

section
/-! PROOFS. The memory frame of the instructions (20_memory.md R87, R91). The devices write OAM alone, and leave it while
the DMA waits and the corruption bug is off (60_exceptions.md R483, R520); what is left are the stores of `storesOf`. -/

namespace Sys2Proof.Machine

/-- The DMA stores no byte in the next `n` M-cycles, and starts a transfer in them only at their end (R480, R483). -/
def DmaState.Waits (n : Nat) : DmaState → Prop
  | .idle => True
  | .starting _ m _ => n ≤ m
  | .active _ _ => n = 0

theorem Bus.dmaStep_waits (b : Bus) {n : Nat} (h : b.dma.st.Waits (n + 1)) :
    b.dmaStep.mem = b.mem ∧ b.dmaStep.dma.st.Waits n := by
  unfold Bus.dmaStep
  split
  case h_1 hst => exact ⟨rfl, by rw [hst]; trivial⟩
  case h_2 src m blocked hst =>
    rw [hst] at h
    change n + 1 ≤ m at h
    refine ⟨rfl, ?_⟩
    dsimp only
    split
    · exact Nat.le_sub_one_of_lt h
    · change n = 0
      omega
  case h_3 src i hst => rw [hst] at h; exact absurd h (Nat.succ_ne_zero n)

theorem Bus.oamBugFires_off (b : Bus) (x : Option Word) (h : b.params.oamBug = .off) : b.oamBugFires x = false := by
  cases x <;> simp [Bus.oamBugFires, h]

/-- Nothing but the Cpu writes the byte at key `k` in the next `n` M-cycles: it lies outside OAM, or the DMA waits and
there is no OAM corruption. -/
def Bus.Spares (k n : Nat) (b : Bus) : Prop :=
  ¬ IsOamKey k ∨ b.params.oamBug = .off ∧ 1 ≤ b.params.dmaStartup ∧ b.dma.st.Waits n

/-- The byte at key `k` reads `r`, and is the Cpu's alone to write for `n` M-cycles. -/
def Bus.Holds (k : Nat) (r : Byte) (n : Nat) (b : Bus) : Prop := b.Reads k r ∧ b.Spares k n

theorem Bus.Holds.advance {k : Nat} {r : Byte} {n : Nat} {b : Bus} (x : Option Word) (h : b.Holds k r (n + 1)) :
    (b.advance x).Holds k r n := by
  obtain ⟨hread, hk | ⟨hoff, hstart, hwait⟩⟩ := h
  · exact ⟨hread.advance x hk, .inl hk⟩
  · obtain ⟨hw, hv, hr⟩ := hread
    have hbug : b.oamBugStep x = b := if_neg (by rw [b.oamBugFires_off x hoff]; decide)
    obtain ⟨hmem, hdma⟩ := b.dmaStep_waits hwait
    refine ⟨⟨b.advance_wf x hw, b.advance_valid x hv, ?_⟩, .inr ⟨?_, ?_, ?_⟩⟩
    · rwa [Bus.advance_mem, hbug, hmem]
    · rwa [Bus.advance_params]
    · rwa [Bus.advance_params]
    · rwa [Bus.advance_dma, hbug]

/-- A transfer that a write starts waits for two M-cycles at least (R480, R481). -/
theorem Bus.Holds.cpuWrite {k : Nat} {r : Byte} {n : Nat} {b : Bus} (a : Word) (v : Byte) (h : b.Holds k r n)
    (hn : n ≤ 2) (hs : b.storeKey a ≠ some k) : (b.cpuWrite a v).Holds k r n := by
  refine ⟨h.1.cpuWrite a v hs, h.2.imp id fun ⟨hoff, hstart, hwait⟩ => ?_⟩
  rw [Bus.cpuWrite_params]
  refine ⟨hoff, hstart, ?_⟩
  rcases b.cpuWrite_dma a v with hd | hd <;> rw [hd]
  · exact hwait
  · change n ≤ b.params.dmaStartup + 1
    omega

theorem Bus.Holds.setDivider {k : Nat} {r : Byte} {n : Nat} {b : Bus} (d : Word) (h : b.Holds k r n) :
    (b.setDivider d).Holds k r n :=
  ⟨h.1.setDivider d, by unfold Bus.Spares; rw [Bus.setDivider_params, Bus.setDivider_dma]; exact h.2⟩

/-! The operations of the instructions, from a state whose byte at `k` is the Cpu's alone. -/

section
variable {k : Nat} {r : Byte} {s t : State}

/-- One write M-cycle. -/
theorem writeCycle_holds {a : Word} {n : Nat} (v : Byte) (h : s.bus.Holds k r (n + 1)) (hn : n ≤ 1)
    (hs : s.bus.storeKey a ≠ some k) : (s.writeCycle a v).bus.Holds k r n :=
  (h.cpuWrite a v (by omega) hs).advance _

/-- A read and a write M-cycle at HL: INC, DEC, the prefixed operations. -/
theorem readWrite_holds {a : Word} {v : Byte} (h : ∀ n, s.bus.Holds k r n)
    (hs : ∀ p ∈ [(s.readCycle a, a)], p.1.bus.storeKey p.2 ≠ some k) :
    ((s.readCycle a).writeCycle a v).bus.Holds k r 0 :=
  writeCycle_holds v ((h 2).advance _) (by decide) (hs _ (List.mem_singleton_self _))

theorem push_holds (w : Word) (h : ∀ n, s.bus.Holds k r n)
    (hs : ∀ p ∈ pushStores w s, p.1.bus.storeKey p.2 ≠ some k) :
    ((s.internalIdu s.cpu.sp).pushWord w).bus.Holds k r 0 := by
  simp only [pushStores, List.forall_mem_cons] at hs
  obtain ⟨h1, h2, -⟩ := hs
  have hsp : s.cpu.sp - 2 = s.cpu.sp - 1 - 1 := by bv_omega
  rw [hsp] at h2
  have hhigh := ((h 3).advance (some s.cpu.sp)).cpuWrite _ (highByte w) (by decide) h1
  exact ((hhigh.advance _).cpuWrite _ _ (by decide) h2).advance _

theorem callTo_holds (a : Word) (h : ∀ n, s.bus.Holds k r n)
    (hs : ∀ p ∈ pushStores s.cpu.pc s, p.1.bus.storeKey p.2 ≠ some k) : (s.callTo a).bus.Holds k r 0 :=
  push_holds s.cpu.pc h hs

theorem callIf_holds (cc : Cond) (a : Word) (hx : callIf cc a s = .next t) (h : ∀ n, s.bus.Holds k r n)
    (hs : ∀ p ∈ (if s.cpu.cond cc then pushStores s.cpu.pc s else []), p.1.bus.storeKey p.2 ≠ some k) :
    t.bus.Holds k r 0 := by
  unfold callIf call at hx
  split at hx
  · rename_i hc
    rw [if_pos hc] at hs
    cases hx
    exact callTo_holds a h hs
  · cases hx
    exact h 0

theorem jumpIf_holds (cc : Cond) (a : Word) (hx : jumpIf cc a s = .next t)
    (h : ∀ n, s.bus.Holds k r n) : t.bus.Holds k r 0 := by
  unfold jumpIf jumpTo at hx
  split at hx <;> cases hx
  · exact (h 1).advance _
  · exact h 0

theorem retIf_holds (cc : Cond) (hx : retIf cc s = .next t)
    (h : ∀ n, s.bus.Holds k r n) : t.bus.Holds k r 0 := by
  unfold retIf at hx
  split at hx <;> cases hx
  · exact ((((h 4).advance _).advance _).advance _).advance _
  · exact (h 1).advance _

theorem reg8OfCode_eq_none {z : BitVec 3} : reg8OfCode z = none → z = 6 := by
  revert z
  decide

/-- The prefixed instructions at HL store a byte there, but for BIT (R156, R164). -/
theorem storesOf_prefixCb {op2 : Byte} (s : State) (hz : reg8OfCode (op2.extractLsb' 0 3) = none)
    (hx : (op2.extractLsb' 6 2).toNat ≠ 1) : storesOf (.prefixCb op2) s = [(s.readCycle s.cpu.hl, s.cpu.hl)] :=
  if_pos ⟨reg8OfCode_eq_none hz, fun e => hx (by rw [e]; rfl)⟩

theorem execPrefixCb_holds (op2 : Byte) (hx : execPrefixCb op2 s = .next t)
    (h : ∀ n, s.bus.Holds k r n)
    (hs : ∀ p ∈ storesOf (.prefixCb op2) s, p.1.bus.storeKey p.2 ≠ some k) :
    t.bus.Holds k r 0 := by
  unfold execPrefixCb at hx
  dsimp only at hx
  split at hx
  case h_1 | h_2 | h_3 | h_4 => cases hx; exact h 0
  case h_6 => cases hx; exact (h 1).advance _
  case h_5 | h_7 =>
    rw [storesOf_prefixCb s ‹_› (by omega)] at hs
    cases hx
    exact readWrite_holds h hs
  case h_8 =>
    rw [storesOf_prefixCb s ‹_› (by assumption)] at hs
    cases hx
    exact readWrite_holds h hs

/-- One pass over the instructions, by their stores and then by their M-cycles. -/
theorem exec_holds (i : Instr) (hx : exec i s = .next t)
    (h : ∀ n, s.bus.Holds k r n) (hs : ∀ p ∈ storesOf i s, p.1.bus.storeKey p.2 ≠ some k) : t.bus.Holds k r 0 := by
  cases i
  case halt => exact execHalt_bus (Bus.Holds k r 0) s t hx (h 0)
  case prefixCb op2 => exact execPrefixCb_holds op2 hx h hs
  case jrNzE | jrZE | jrNcE | jrCE | jpNzNn | jpZNn | jpNcNn | jpCNn => exact jumpIf_holds _ _ hx h
  case callNzNn | callZNn | callNcNn | callCNn => dsimp only [storesOf] at hs; exact callIf_holds _ _ hx h hs
  case retNz | retZ | retNc | retC => exact retIf_holds _ hx h
  all_goals cases hx
  case pushBc | pushDe | pushHl | pushAf => dsimp only [storesOf] at hs; exact push_holds _ h hs
  case callNn | rst00 | rst08 | rst10 | rst18 | rst20 | rst28 | rst30 | rst38 =>
    dsimp only [storesOf] at hs
    exact callTo_holds _ h hs
  case stop => exact (h 0).setDivider 0
  case ldAtNnSp nn =>
    dsimp only [storesOf] at hs
    simp only [List.forall_mem_cons] at hs
    obtain ⟨h1, h2, -⟩ := hs
    exact writeCycle_holds _ (writeCycle_holds _ (h 2) (by decide) h1) (by decide) h2
  case ldAtHlB | ldAtHlC | ldAtHlD | ldAtHlE | ldAtHlH | ldAtHlL | ldAtHlA | ldAtHlIncA | ldAtHlDecA | ldAtHlN
      | ldAtBcA | ldAtDeA | ldAtNnA | ldhAtNA | ldhAtCA =>
    exact writeCycle_holds _ (h 1) (by decide) (hs _ (List.mem_singleton_self _))
  case incAtHl | decAtHl | rlcAtHl | rrcAtHl | rlAtHl | rrAtHl | slaAtHl | sraAtHl | swapAtHl | srlAtHl
      | res0AtHl | res1AtHl | res2AtHl | res3AtHl | res4AtHl | res5AtHl | res6AtHl | res7AtHl
      | set0AtHl | set1AtHl | set2AtHl | set3AtHl | set4AtHl | set5AtHl | set6AtHl | set7AtHl =>
    exact readWrite_holds h hs
  case ret | reti => exact (((h 3).advance _).advance _).advance _
  case addSpE | popBc | popDe | popHl | popAf => exact ((h 2).advance _).advance _
  case ldBAtHl | ldCAtHl | ldDAtHl | ldEAtHl | ldHAtHl | ldLAtHl | ldAAtHl | ldAAtHlInc | ldAAtHlDec
      | ldAAtBc | ldAAtDe | ldAAtNn | ldhAAtN | ldhAAtC | addAAtHl | adcAAtHl | subAtHl | sbcAAtHl
      | andAtHl | xorAtHl | orAtHl | cpAtHl
      | bit0AtHl | bit1AtHl | bit2AtHl | bit3AtHl | bit4AtHl | bit5AtHl | bit6AtHl | bit7AtHl
      | addHlBc | addHlDe | addHlHl | addHlSp | incBc | incDe | incHl | incSp | decBc | decDe | decHl | decSp
      | ldSpHl | ldHlSpE | jpNn | jrE =>
    exact (h 1).advance _
  all_goals exact h 0

end

/-- Settles O22: a quiet or non-OAM byte is the Cpu's alone, and no store of the instruction has its key. -/
theorem memoryFrame : Obligations.MemoryFrame := by
  intro i s t k hx hw hvalid hk hs
  have hv : s.bus.Valid := ((State.valid_iff s).mp hvalid).2
  have hspares (n : Nat) : s.bus.Spares k n := hk.imp id fun ⟨hidle, hoff, hstart⟩ => ⟨hoff, hstart, by rw [hidle]; trivial⟩
  obtain ⟨hread, -⟩ := exec_holds i hx (fun n => ⟨⟨hw, hv, rfl⟩, hspares n⟩) hs
  exact hread.2.2

end Sys2Proof.Machine
end

section
/-! PROOFS. Decoding and encoding are inverse (30_encoding.md R160, R164), but for STOP's free second byte (R167). An
instruction is taken to its bytes and back by its row. The other direction compares each opcode map, entry by entry, with
the grid of the bytes that its places stand for. -/

namespace Sys2Proof.Machine

/-! ## From instructions to bytes and back -/

/-- An opcode whose row takes the word operand (R151) decodes its low and high byte to the word. -/
theorem decode_wordOperand {op : Byte} {f : Word → Instr} (nn : Word) (rest : List Byte) (hlen : opLength op = 3)
    (hrow : ∀ b1 b2, decodeOp op b1 b2 = f (joinBytes b2 b1)) :
    decode (op :: lowByte nn :: highByte nn :: rest) = .ok (f nn, rest) := by
  simp only [decode, hlen, hrow, joinBytes_high_low]

/-- Settles O1, by the constructors: the bytes of a word operand are joined again, and every other well-formed
instruction stands in the place of its opcode, with its byte operand if it has one. -/
theorem decodeEncode : Obligations.DecodeEncode := by
  intro i rest hwf
  cases i
  case prefixCb => cases hwf
  case ldBcNn nn | ldDeNn nn | ldHlNn nn | ldSpNn nn | ldAtNnSp nn | ldAtNnA nn | ldAAtNn nn
      | jpNn nn | jpNzNn nn | jpZNn nn | jpNcNn nn | jpCNn nn
      | callNn nn | callNzNn nn | callZNn nn | callNcNn nn | callCNn nn =>
    exact decode_wordOperand nn rest rfl fun _ _ => rfl
  all_goals rfl

/-! ## The opcode maps as grids -/

/-- A function of the opcode, laid out as the maps of R160 and R164 are: a row for each high nibble. -/
def opcodeGrid {α : Type} (g : Byte → α) : List (List α) :=
  (List.range 16).map fun h => (List.range 16).map fun l => g (BitVec.ofNat 8 (16 * h + l))

theorem opcodeGrid_getD {α : Type} (g : Byte → α) (op : Byte) (d : α) :
    ((opcodeGrid g).getD (op.toNat / 16) []).getD (op.toNat % 16) d = g op := by
  have hhigh : op.toNat / 16 < 16 := by omega
  have hlow : op.toNat % 16 < 16 := by omega
  simp [opcodeGrid, List.getD_eq_getElem?_getD, hhigh, hlow, Nat.div_add_mod]

/-- What `f` makes of the entry of a map at `op`, read off the grid of its values. -/
theorem apply_getD_of_map_eq_grid {α : Type} {f : Instr → α} {g : Byte → α} {rows : List (List Instr)}
    (h : rows.map (·.map f) = opcodeGrid g) (op : Byte) (d : Instr) :
    f ((rows.getD (op.toNat / 16) []).getD (op.toNat % 16) d) = g op := by
  rw [← opcodeGrid_getD g op (f d), ← h]
  simp only [List.getD_eq_getElem?_getD, List.getElem?_map]
  cases rows[op.toNat / 16]? <;> simp

theorem encode_decodeCb (op2 : Byte) : encode (decodeCb op2) = [0xCB, op2] :=
  apply_getD_of_map_eq_grid (g := fun op2 => [0xCB, op2]) rfl op2 .nop

theorem wellFormed_decodeCb (op2 : Byte) : (decodeCb op2).wellFormed = true :=
  apply_getD_of_map_eq_grid (g := fun _ => true) rfl op2 .nop

/-- The bytes of an instruction: the opcode, and of the two bytes after it as many as its length has (R150). -/
def instrBytes (op b1 b2 : Byte) : List Byte := op :: [b1, b2].take (opLength op - 1)

/-- The map of R160 encodes to the bytes that its places stand for, STOP with the second byte 0. -/
theorem opRows_map_encode (nn : Word) :
    (opRows (lowByte nn) nn).map (·.map encode) =
      opcodeGrid fun op => instrBytes op (if op = 0x10 then 0 else lowByte nn) (highByte nn) := by
  simp only [opRows, opRowC, List.map, encode_decodeCb]
  rfl

theorem opRows_map_wellFormed (n : Byte) (nn : Word) :
    (opRows n nn).map (·.map Instr.wellFormed) = opcodeGrid fun _ => true := by
  simp only [opRows, opRowC, List.map, wellFormed_decodeCb]
  rfl

theorem encode_decodeOp {op : Byte} (b1 b2 : Byte) (hop : op ≠ 0x10) :
    encode (decodeOp op b1 b2) = instrBytes op b1 b2 := by
  have h := apply_getD_of_map_eq_grid (opRows_map_encode (joinBytes b2 b1)) op .nop
  rwa [lowByte_join, highByte_join, if_neg hop] at h

theorem wellFormed_decodeOp (op b1 b2 : Byte) : (decodeOp op b1 b2).wellFormed = true :=
  apply_getD_of_map_eq_grid (opRows_map_wellFormed b1 (joinBytes b2 b1)) op .nop

/-- STOP is the opcode 0x10 alone (R167). -/
theorem decodeOp_eq_stop {op b1 b2 : Byte} : decodeOp op b1 b2 = .stop ↔ op = 0x10 := by
  refine ⟨fun hstop => ?_, fun hop => hop ▸ rfl⟩
  by_contra hop
  have hbytes := encode_decodeOp b1 b2 hop
  rw [hstop] at hbytes
  exact hop (List.head_eq_of_cons_eq hbytes).symm

/-- What the decoder has read when it answers: the bytes of one instruction, and then the rest. -/
theorem decode_eq_ok {bs rest : List Byte} {i : Instr} (h : decode bs = .ok (i, rest)) :
    ∃ op b1 b2, i = decodeOp op b1 b2 ∧ bs = instrBytes op b1 b2 ++ rest := by
  cases bs with
  | nil => cases h
  | cons op tail =>
    dsimp only [decode] at h
    split at h <;> cases h
    next hlen => exact ⟨op, 0, 0, rfl, by simp [instrBytes, hlen]⟩
    next b1 hlen => exact ⟨op, b1, 0, rfl, by simp [instrBytes, hlen]⟩
    next b1 b2 hlen => exact ⟨op, b1, b2, rfl, by simp [instrBytes, hlen]⟩

/-- Settles O2: the bytes read are `instrBytes` of the opcode, which is the encoding of what the opcode map has there. -/
theorem decodeInverse : Obligations.DecodeInverse := by
  intro bs i rest h
  obtain ⟨op, b1, b2, rfl, rfl⟩ := decode_eq_ok h
  refine ⟨wellFormed_decodeOp op b1 b2, fun hstop => ?_, fun hstop => ?_⟩
  · rw [encode_decodeOp b1 b2 (mt decodeOp_eq_stop.mpr hstop)]
  · obtain rfl := decodeOp_eq_stop.mp hstop
    exact ⟨b1, rfl⟩

end Sys2Proof.Machine
end

section
/-! PROOFS. Words that decode to their instructions (30_encoding.md R160, R164 to R167), and the 8-bit loads
(40_load8.md R200 to R218). A load given by its opcode fields is taken to the operation of its rule by the registers that
the fields name; HL is stepped as the integer that its two halves stand for (00_scope.md R20). -/

namespace Sys2Proof.Machine

/-- Settles O3: each word is read in its place of the opcode map, and the last two lists end too early. -/
theorem decodeWords : Obligations.DecodeWords :=
  ⟨rfl, rfl, rfl, rfl, rfl, rfl, rfl, rfl, rfl, rfl, rfl⟩

/-! ## Loads by their opcode fields -/

/-- The 3-bit code of a register (30_encoding.md R152). -/
def Reg8.code : Reg8 → BitVec 3
  | .b => 0
  | .c => 1
  | .d => 2
  | .e => 3
  | .h => 4
  | .l => 5
  | .a => 7

theorem reg8OfCode_eq_some {y : BitVec 3} {r : Reg8} : reg8OfCode y = some r ↔ y = r.code := by
  revert y
  cases r <;> decide

theorem exec_ldRegReg (r r' : Reg8) (b1 b2 : Byte) (s : State) :
    exec (decodeOp (1#2 ++ r.code ++ r'.code) b1 b2) s = ldRegReg r r' s := by
  cases r <;> cases r' <;> rfl

theorem exec_ldRegImm (r : Reg8) (b1 b2 : Byte) (s : State) :
    exec (decodeOp (0#2 ++ r.code ++ 6#3) b1 b2) s = ldRegImm r b1 s := by
  cases r <;> rfl

theorem exec_ldRegAtHl (r : Reg8) (b1 b2 : Byte) (s : State) :
    exec (decodeOp (1#2 ++ r.code ++ 6#3) b1 b2) s = ldRegMem r s.cpu.hl s := by
  cases r <;> rfl

theorem exec_ldAtHlReg (r : Reg8) (b1 b2 : Byte) (s : State) :
    exec (decodeOp (1#2 ++ 6#3 ++ r.code) b1 b2) s = ldMem s.cpu.hl (s.cpu.reg r) s := by
  cases r <;> rfl

/-- Settles O23: each form is the operation of its rule on the registers that its fields name. -/
theorem loadRegister : Obligations.LoadRegister := by
  intro y z b1 b2 s r r' hy hz
  obtain rfl := reg8OfCode_eq_some.mp hy
  obtain rfl := reg8OfCode_eq_some.mp hz
  exact ⟨exec_ldRegReg r r' b1 b2 s, exec_ldRegImm r b1 b2 s, exec_ldRegAtHl r b1 b2 s, exec_ldAtHlReg r' b1 b2 s, rfl⟩

/-! ## Loads and stores of A -/

theorem highPage_eq_ofNat (n : Byte) : highPage n = BitVec.ofNat 16 (0xFF00 + n.toNat) := by
  apply BitVec.eq_of_toNat_eq
  have hn := n.isLt
  rw [highPage, joinBytes_toNat, BitVec.toNat_ofNat, Nat.mod_eq_of_lt (by omega)]
  rfl

theorem Cpu.hl_toNat (c : Cpu) : c.hl.toNat = c.h.toNat * 256 + c.l.toNat := joinBytes_toNat c.h c.l

theorem Cpu.setHl_toNat (c : Cpu) (w : Word) : (c.setHl w).h.toNat * 256 + (c.setHl w).l.toNat = w.toNat := by
  rw [← Cpu.hl_toNat, Cpu.hl_setHl]

theorem Cpu.hl_add_one_toNat (c : Cpu) : (c.hl + 1).toNat = (c.h.toNat * 256 + c.l.toNat + 1) % 65536 := by
  rw [BitVec.toNat_add, c.hl_toNat]
  rfl

theorem Cpu.hl_sub_one_toNat (c : Cpu) : (c.hl - 1).toNat = (c.h.toNat * 256 + c.l.toNat + 65535) % 65536 := by
  rw [BitVec.toNat_sub, c.hl_toNat, Nat.add_comm]
  rfl

/-- Settles O24: each row is one read or write M-cycle at its address, and HL is stepped modulo 2^16. -/
theorem loadAccumulator : Obligations.LoadAccumulator := by
  intro s n nn
  have hinc := s.cpu.hl_add_one_toNat
  have hdec := s.cpu.hl_sub_one_toNat
  rw [← highPage_eq_ofNat n, ← highPage_eq_ofNat s.cpu.c]
  simp only [List.forall_mem_cons, List.not_mem_nil, false_imp_iff, implies_true, and_true]
  refine ⟨⟨rfl, rfl, rfl, rfl, rfl⟩, ⟨rfl, rfl, rfl, rfl, rfl⟩, ⟨?_, ?_⟩, ⟨?_, ?_⟩⟩
  · exact ⟨_, rfl, rfl, rfl, (Cpu.setHl_toNat _ _).trans hinc⟩
  · exact ⟨_, rfl, rfl, rfl, (Cpu.setHl_toNat _ _).trans hdec⟩
  · exact ⟨_, rfl, rfl, rfl, (Cpu.setHl_toNat _ _).trans hinc⟩
  · exact ⟨_, rfl, rfl, rfl, (Cpu.setHl_toNat _ _).trans hdec⟩

end Sys2Proof.Machine
end

section
/-! PROOFS. 41_load16.md and ADD SP,e of 43_alu16.md (R230 to R236, R293). Pushing and popping a word are stated once, by the
two addresses of its bytes; a word pushed on a stack in HRAM pops again because there the Cpu alone writes (20_memory.md
R100, 60_exceptions.md R483, R520). -/

namespace Sys2Proof.Machine

/-! ## SP plus a signed byte -/

theorem sext16_toNat (e : Byte) : ((sext16 e).toNat : Int) = e.toInt % 65536 := by
  rw [sext16, BitVec.signExtend, BitVec.toNat_ofInt]
  omega

theorem add_sext16_toNat (w : Word) (e : Byte) : ((w + sext16 e).toNat : Int) = (w.toNat + e.toInt) % 65536 := by
  have he := sext16_toNat e
  rw [BitVec.toNat_add]
  omega

/-- A flag byte of `spOffsetFlags` reads as the carries of the unsigned low bytes (R233). -/
theorem Cpu.flagsAre_of_spOffset {c : Cpu} {sp : Word} {e : Byte} (hf : c.f = spOffsetFlags sp e) :
    c.FlagsAre False False (sp.toNat % 16 + e.toNat % 16 > 0x0F) (sp.toNat % 256 + e.toNat > 0xFF) :=
  c.flagsAre_of_pack _ _ _ _ _ _ _ _ hf Bool.false_eq_true.to_iff Bool.false_eq_true.to_iff decide_eq_true_iff
    decide_eq_true_iff

/-- Settles O26: both instructions have one sum and one flag byte. -/
theorem spOffset : Obligations.SpOffset := by
  intro s e
  have hsum := add_sext16_toNat s.cpu.sp e
  constructor
  · refine ⟨_, rfl, rfl, rfl, ?_, Cpu.flagsAre_of_spOffset rfl⟩
    rw [← hsum]
    exact congrArg Nat.cast (s.cpu.setHl_toNat _)
  · exact ⟨_, rfl, rfl, rfl, hsum, Cpu.flagsAre_of_spOffset rfl⟩

/-! ## 16-bit loads -/

theorem joinBytes_eq_ofNat (hi lo : Byte) : joinBytes hi lo = BitVec.ofNat 16 (hi.toNat * 256 + lo.toNat) := by
  rw [← joinBytes_toNat, BitVec.ofNat_toNat, BitVec.setWidth_eq]

/-- A pair loaded with an immediate word has the word's bytes in its halves (R230). -/
theorem ldPairImm_joinBytes (p : Pair) (hi lo : Byte) (s : State) :
    ldPairImm p (joinBytes hi lo) s = .next { s with cpu :=
      match p with
      | .bc => { s.cpu with b := hi, c := lo }
      | .de => { s.cpu with d := hi, e := lo }
      | .hl => { s.cpu with h := hi, l := lo }
      | .sp => { s.cpu with sp := joinBytes hi lo } } := by
  cases p <;> simp only [ldPairImm, State.mapCpu, Cpu.setPair, Cpu.setHl, highByte_join, lowByte_join]

/-- Settles O25: each opcode is the operation of its rule on the word that its two bytes make. -/
theorem load16 : Obligations.Load16 := by
  intro s lo hi
  simp only [← joinBytes_eq_ofNat, ofNat_low, ofNat_high]
  exact ⟨ldPairImm_joinBytes .bc hi lo s, ldPairImm_joinBytes .de hi lo s, ldPairImm_joinBytes .hl hi lo s,
    ldPairImm_joinBytes .sp hi lo s, rfl, rfl⟩

/-! ## PUSH and POP -/

theorem decodeOp_push (p : BitVec 2) (b1 b2 : Byte) :
    decodeOp (3#2 ++ p ++ 5#4) b1 b2 = pushInstr (stackPairOfCode p) := by
  revert p
  apply forall_code2
  intro n
  fin_cases n <;> rfl

theorem decodeOp_pop (p : BitVec 2) (b1 b2 : Byte) :
    decodeOp (3#2 ++ p ++ 1#4) b1 b2 = popInstr (stackPairOfCode p) := by
  revert p
  apply forall_code2
  intro n
  fin_cases n <;> rfl

theorem exec_pushInstr (q : StackPair) (s : State) : exec (pushInstr q) s = pushPair q s := by cases q <;> rfl

theorem exec_popInstr (q : StackPair) (s : State) : exec (popInstr q) s = popPair q s := by cases q <;> rfl

theorem sub_one_sub_one (w : Word) : w - 1 - 1 = w - 2 := by bv_omega

theorem add_one_add_one (w : Word) : w + 1 + 1 = w + 2 := by bv_omega

/-- Two write M-cycles, the high byte's first (R234). -/
theorem State.pushWord_eq (s : State) (w : Word) :
    s.pushWord w =
      { cpu := { s.cpu with sp := s.cpu.sp - 2 }
        bus := (((s.bus.cpuWrite (s.cpu.sp - 1) (highByte w)).advance (some (s.cpu.sp - 1))).cpuWrite
          (s.cpu.sp - 2) (lowByte w)).advance (some (s.cpu.sp - 2)) } := by
  rw [← sub_one_sub_one]
  rfl

/-- Two read M-cycles, the low byte's first (R234). -/
theorem State.popCycles_eq (s : State) :
    s.popCycles =
      { cpu := { s.cpu with sp := s.cpu.sp + 2 }
        bus := (s.bus.advance (some s.cpu.sp)).advance (some (s.cpu.sp + 1)) } := by
  rw [← add_one_add_one]
  rfl

theorem State.popValue_eq (s : State) :
    s.popValue = joinBytes ((s.bus.advance (some s.cpu.sp)).cpuRead (s.cpu.sp + 1)) (s.bus.cpuRead s.cpu.sp) := rfl

/-- Settles O27: a push is its two writes, a pop its two reads, and the word popped is taken apart again. -/
theorem pushPop : Obligations.PushPop := by
  intro p b1 b2 s
  rw [decodeOp_push, decodeOp_pop, exec_pushInstr, exec_popInstr]
  generalize stackPairOfCode p = q
  simp only [ofNat_low, ofNat_high]
  constructor
  · rw [pushPair, State.pushWord_eq]
    rfl
  · rw [popPair, State.popCycles_eq, State.popValue_eq]
    cases q <;> simp only [State.mapCpu, Cpu.setStackPair, Cpu.setHl, highByte_join, lowByte_join]

/-! ## A word pushed in HRAM pops again -/

theorem region_eq_hram {a : Word} (h : InHram a) : region a = .hram := by
  obtain ⟨hlo, hhi⟩ := h
  unfold region
  repeat rw [if_neg (by omega)]
  rw [if_pos hhi]

theorem ramKey_hram {a : Word} (h : InHram a) : ramKey a = a.toNat := by simp [ramKey, region_eq_hram h]

theorem Bus.dmaBlocks_hram (b : Bus) {a : Word} (h : InHram a) : b.dmaBlocks a = false :=
  b.dmaBlocks_high (Nat.le_trans (by decide) h.1)

theorem Bus.storeKey_hram (b : Bus) {a : Word} (h : InHram a) : b.storeKey a = some a.toNat := by
  rw [b.storeKey_ram (b.dmaBlocks_hram h) (.inr (.inr (region_eq_hram h))), ramKey_hram h]

/-- What the byte at an HRAM address reads is what the Cpu reads there. -/
theorem Bus.Reads.cpuRead_hram {b : Bus} {a : Word} {v : Byte} (h : b.Reads a.toNat v) (ha : InHram a) :
    b.cpuRead a = v := by
  rw [b.cpuRead_ram (b.dmaBlocks_hram ha) (.inr (.inr (region_eq_hram ha))), ramKey_hram ha, h.2.2]

theorem Bus.Reads.advance_hram {b : Bus} {a : Word} {v : Byte} (x : Option Word) (h : b.Reads a.toNat v)
    (ha : InHram a) : (b.advance x).Reads a.toNat v :=
  h.advance x fun hoam => by have := ha.1; omega

theorem Bus.reads_cpuWrite_hram {b : Bus} {a : Word} (v : Byte) (hw : b.mem.wf = true) (hv : b.Valid) (ha : InHram a) :
    (b.cpuWrite a v).Reads a.toNat v :=
  ⟨b.cpuWrite_wf a v hw, b.cpuWrite_valid a v hv, by
    rw [b.cpuWrite_read_same a v hw (b.storeKey_hram ha), b.storeByte_ram v (.inr (.inr (region_eq_hram ha)))]⟩

/-- After a push in HRAM both bytes are there. -/
theorem pushWord_reads {s : State} (w : Word) (hw : s.bus.mem.wf = true) (hv : s.bus.Valid)
    (h1 : InHram (s.cpu.sp - 1)) (h2 : InHram (s.cpu.sp - 2)) :
    (s.pushWord w).bus.Reads (s.cpu.sp - 1).toNat (highByte w) ∧
    (s.pushWord w).bus.Reads (s.cpu.sp - 2).toNat (lowByte w) := by
  rw [State.pushWord_eq]
  have hhigh := (Bus.reads_cpuWrite_hram (highByte w) hw hv h1).advance_hram (some (s.cpu.sp - 1)) h1
  have ⟨hw', hv', _⟩ := hhigh
  have hne : (s.cpu.sp - 2).toNat ≠ (s.cpu.sp - 1).toNat := by bv_omega
  refine ⟨(hhigh.cpuWrite _ _ ?_).advance_hram _ h1, (Bus.reads_cpuWrite_hram _ hw' hv' h2).advance_hram _ h2⟩
  rw [Bus.storeKey_hram _ h2]
  exact fun he => hne (Option.some.inj he)

theorem popValue_pushWord {s : State} (w : Word) (hw : s.bus.mem.wf = true) (hv : s.bus.Valid)
    (h1 : InHram (s.cpu.sp - 1)) (h2 : InHram (s.cpu.sp - 2)) : (s.pushWord w).popValue = w := by
  obtain ⟨hhigh, hlow⟩ := pushWord_reads w hw hv h1 h2
  have hsp : (s.pushWord w).cpu.sp = s.cpu.sp - 2 := by rw [State.pushWord_eq]
  have hnext : s.cpu.sp - 2 + 1 = s.cpu.sp - 1 := by bv_omega
  rw [State.popValue_eq, hsp, hnext, (hhigh.advance_hram _ h1).cpuRead_hram h1, hlow.cpuRead_hram h2,
    joinBytes_high_low]

@[simp] theorem Cpu.setStackPair_sp (c : Cpu) (q : StackPair) (w : Word) : (c.setStackPair q w).sp = c.sp := by
  cases q <;> rfl

@[simp] theorem Cpu.setStackPair_pc (c : Cpu) (q : StackPair) (w : Word) : (c.setStackPair q w).pc = c.pc := by
  cases q <;> rfl

theorem joinBytes_and (hi lo hi' lo' : Byte) :
    joinBytes hi lo &&& joinBytes hi' lo' = joinBytes (hi &&& hi') (lo &&& lo') :=
  BitVec.and_append

/-- A pair reads back as written, but for F's low bits (R236). -/
theorem Cpu.stackPair_setStackPair (c : Cpu) (q : StackPair) (w : Word) :
    (c.setStackPair q w).stackPair q = if q = .af then w &&& 0xFFF0 else w := by
  cases q
  case bc | de | hl => exact joinBytes_high_low w
  case af =>
    calc joinBytes (highByte w) (lowByte w &&& 0xF0)
        = joinBytes (highByte w) (lowByte w) &&& joinBytes 0xFF 0xF0 := by
          rw [joinBytes_and, show highByte w &&& 0xFF = highByte w from BitVec.and_allOnes]
      _ = w &&& 0xFFF0 := by rw [joinBytes_high_low]; rfl

/-- Settles O28: the word popped is the word pushed, and POP AF alone masks it. -/
theorem pushPopRoundTrip : Obligations.PushPopRoundTrip := by
  intro p q s hw hvalid h1 h2
  have hv : s.bus.Valid := ((State.valid_iff s).mp hvalid).2
  have hpop := popValue_pushWord (s := s.internalIdu s.cpu.sp) (s.cpu.stackPair p) (s.bus.advance_wf _ hw)
    (s.bus.advance_valid _ hv) h1 h2
  refine ⟨_, _, exec_pushInstr p s, exec_popInstr q _, ?_, ?_, ?_⟩
  · rw [State.mapCpu_cpu, Cpu.stackPair_setStackPair, hpop]
  · simp
  · simp

end Sys2Proof.Machine
end

section
/-! PROOFS. 42_alu8.md, 8-bit arithmetic and logic (R250 to R282). An opcode is taken to the operation that its field y
names on the operand that its field z names; what each operation leaves is then said on integers. DAA after a sum or a
difference of two BCD bytes is the decimal one because its two conditions are the decimal carries. -/

namespace Sys2Proof.Machine

/-! ## The opcode fields -/

/-- The arithmetic codes by their 3-bit code (30_encoding.md R155). -/
def aluOpOfCode (y : BitVec 3) : AluOp :=
  match y.toNat with
  | 0 => .add
  | 1 => .adc
  | 2 => .sub
  | 3 => .sbc
  | 4 => .and
  | 5 => .xor
  | 6 => .or
  | _ => .cp

/-- The block 0x80..0xBF: an arithmetic code on the operand, in the state after reading it. -/
theorem exec_aluSource (y z : BitVec 3) (b1 b2 : Byte) (s : State) :
    exec (decodeOp (2#2 ++ y ++ z) b1 b2) s = aluImm (aluOpOfCode y) (s.source z).1 (s.source z).2 := by
  revert z
  refine forall_code3 _ fun z => ?_
  revert y
  refine forall_code3 _ fun y => ?_
  fin_cases y <;> fin_cases z <;> rfl

theorem exec_aluN (y : BitVec 3) (b1 b2 : Byte) (s : State) :
    exec (decodeOp (3#2 ++ y ++ 6#3) b1 b2) s = aluImm (aluOpOfCode y) b1 s := by
  revert y
  refine forall_code3 _ fun y => ?_
  fin_cases y <;> rfl

theorem State.source_cpu (s : State) (z : BitVec 3) : (s.source z).2.cpu = s.cpu := by
  unfold State.source
  split <;> rfl

/-- A carry or borrow that only the code with carry takes in. -/
theorem ite_and_eq_toNat (p : Prop) [Decidable p] (b : Bool) :
    (if p ∧ b = true then 1 else 0) = (decide p && b).toNat := by
  by_cases p <;> cases b <;> simp [*]

/-! ## Sums and differences -/

theorem Cpu.flagsAre_add8 {c : Cpu} {a v : Byte} {cy : Bool} (hf : c.f = (add8 a v cy).f) :
    c.FlagsAre ((add8 a v cy).res = 0) False (a.toNat % 16 + v.toNat % 16 + cy.toNat > 0x0F)
      (a.toNat + v.toNat + cy.toNat > 0xFF) :=
  c.flagsAre_of_pack _ _ _ _ _ _ _ _ hf beq_iff_eq Bool.false_eq_true.to_iff decide_eq_true_iff decide_eq_true_iff

theorem Cpu.flagsAre_sub8 {c : Cpu} {a v : Byte} {cy : Bool} (hf : c.f = (sub8 a v cy).f) :
    c.FlagsAre ((sub8 a v cy).res = 0) True (a.toNat % 16 < v.toNat % 16 + cy.toNat)
      (a.toNat < v.toNat + cy.toNat) := by
  refine c.flagsAre_of_pack _ _ _ _ _ _ _ _ hf beq_iff_eq (eq_self true).to_iff ?_ ?_
  · rw [decide_eq_true_iff]; omega
  · rw [decide_eq_true_iff]; omega

section
variable {i : Instr} {s u : State} {op : AluOp} {v : Byte} {cy : Bool}

/-- An arithmetic code runs from the state `u` after its operand is read, and writes A and F alone. -/
theorem exec_alu_next {a f : Byte} (hexec : exec i s = aluImm op v u) (hu : u.cpu = s.cpu)
    (hop : s.cpu.alu op v = { s.cpu with a := a, f := f }) :
    ∃ t, exec i s = .next t ∧ t.bus = u.bus ∧ t.cpu = { s.cpu with a := a, f := f } :=
  ⟨_, hexec, rfl, (congrArg (Cpu.alu · op v) hu).trans hop⟩

/-- An arithmetic code that leaves `add8`'s result and flags adds. -/
theorem sumResult_of_exec (hexec : exec i s = aluImm op v u) (hu : u.cpu = s.cpu)
    (hop : s.cpu.alu op v = { s.cpu with a := (add8 s.cpu.a v cy).res, f := (add8 s.cpu.a v cy).f }) :
    SumResult i s u v cy.toNat := by
  obtain ⟨t, hnext, hbus, hcpu⟩ := exec_alu_next hexec hu hop
  refine ⟨t, hnext, hbus, ?_⟩
  rw [hcpu]
  exact ⟨rfl, add8_res _ _ _, Cpu.flagsAre_add8 rfl⟩

/-- An arithmetic code that leaves `sub8`'s flags, and its result or A itself, subtracts. -/
theorem differenceResult_of_exec {keep : Bool} (hexec : exec i s = aluImm op v u) (hu : u.cpu = s.cpu)
    (hop : s.cpu.alu op v =
      { s.cpu with a := if keep then s.cpu.a else (sub8 s.cpu.a v cy).res, f := (sub8 s.cpu.a v cy).f }) :
    DifferenceResult i s u v cy.toNat keep := by
  obtain ⟨t, hnext, hbus, hcpu⟩ := exec_alu_next hexec hu hop
  refine ⟨t, (sub8 s.cpu.a v cy).res, hnext, hbus, ?_⟩
  rw [hcpu]
  exact ⟨rfl, sub8_res _ _ _, Cpu.flagsAre_sub8 rfl⟩

/-- An arithmetic code that leaves `res`, its Z and an H alone is bitwise where `res` is. -/
theorem logicResult_of_exec {res : Byte} {g : Bool → Bool → Bool} {h : Bool} {H : Prop}
    (hexec : exec i s = aluImm op v u) (hu : u.cpu = s.cpu)
    (hop : s.cpu.alu op v = { s.cpu with a := res, f := packFlags (res == 0) false h false })
    (hbit : ∀ j, res.getLsbD j = g (s.cpu.a.getLsbD j) (v.getLsbD j)) (hh : h = true ↔ H) :
    LogicResult i s u v g H := by
  obtain ⟨t, hnext, hbus, hcpu⟩ := exec_alu_next hexec hu hop
  refine ⟨t, hnext, hbus, ?_⟩
  rw [hcpu]
  exact ⟨rfl, fun j _ => hbit j, Cpu.flagsAre_of_pack _ _ _ _ _ _ _ _ _ rfl beq_iff_eq Bool.false_eq_true.to_iff hh
    Bool.false_eq_true.to_iff⟩

end

/-- Settles O29: both codes leave `add8`'s result and flags, with the carry in for ADC. -/
theorem addAdc : Obligations.AddAdc := by
  intro y z b1 b2 s hy
  have hop (v : Byte) : s.cpu.alu (aluOpOfCode y) v = { s.cpu with
      a := (add8 s.cpu.a v (decide (y = 1) && s.cpu.flagC)).res
      f := (add8 s.cpu.a v (decide (y = 1) && s.cpu.flagC)).f } := by
    obtain rfl | rfl : y = 0 ∨ y = 1 := by bv_omega
    · rfl
    · rfl
  rw [ite_and_eq_toNat]
  exact ⟨sumResult_of_exec (exec_aluSource y z b1 b2 s) (s.source_cpu z) (hop _),
    sumResult_of_exec (exec_aluN y b1 b2 s) rfl (hop _)⟩

/-- Settles O30: the three codes leave `sub8`'s flags, with the borrow in for SBC, and its result but for CP. -/
theorem subSbcCp : Obligations.SubSbcCp := by
  intro y z b1 b2 s hy
  have hop (v : Byte) : s.cpu.alu (aluOpOfCode y) v = { s.cpu with
      a := if decide (y = 7) then s.cpu.a else (sub8 s.cpu.a v (decide (y = 3) && s.cpu.flagC)).res
      f := (sub8 s.cpu.a v (decide (y = 3) && s.cpu.flagC)).f } := by
    obtain rfl | rfl | rfl := hy
    · rfl
    · rfl
    · rfl
  rw [ite_and_eq_toNat]
  exact ⟨differenceResult_of_exec (exec_aluSource y z b1 b2 s) (s.source_cpu z) (hop _),
    differenceResult_of_exec (exec_aluN y b1 b2 s) rfl (hop _)⟩

/-- Settles O31: the three codes are the bitwise operations of bit vectors. -/
theorem logic : Obligations.Logic := by
  intro z b1 b2 s
  simp only [List.forall_mem_cons, List.not_mem_nil, false_imp_iff, implies_true, and_true]
  have hsrc (y : BitVec 3) := exec_aluSource y z b1 b2 s
  have hn (y : BitVec 3) := exec_aluN y b1 b2 s
  have hcpu := s.source_cpu z
  refine ⟨⟨?_, ?_⟩, ⟨?_, ?_⟩, ⟨?_, ?_⟩⟩
  · exact logicResult_of_exec (hsrc 4) hcpu rfl (fun _ => BitVec.getLsbD_and) (eq_self true).to_iff
  · exact logicResult_of_exec (hn 4) rfl rfl (fun _ => BitVec.getLsbD_and) (eq_self true).to_iff
  · exact logicResult_of_exec (hsrc 5) hcpu rfl (fun _ => BitVec.getLsbD_xor) Bool.false_eq_true.to_iff
  · exact logicResult_of_exec (hn 5) rfl rfl (fun _ => BitVec.getLsbD_xor) Bool.false_eq_true.to_iff
  · exact logicResult_of_exec (hsrc 6) hcpu rfl (fun _ => BitVec.getLsbD_or) Bool.false_eq_true.to_iff
  · exact logicResult_of_exec (hn 6) rfl rfl (fun _ => BitVec.getLsbD_or) Bool.false_eq_true.to_iff

/-! ## INC and DEC -/

/-- A change `g` of the operand that the code `y` names, with `g`'s flags. -/
def stepSource (g : Byte → Bool → FlagResult) (y : BitVec 3) (s : State) : Result :=
  match reg8OfCode y with
  | some r => stepReg g r s
  | none => modifyMem g s

/-- What such a change leaves: the result in the register, or stored at HL after the read M-cycle. -/
theorem stepSource_next (g : Byte → Bool → FlagResult) (y : BitVec 3) (s : State) :
    ∃ t, stepSource g y s = .next t ∧ t.cpu.f = (g (s.source y).1 s.cpu.flagC).f ∧
      (∀ r, reg8OfCode y = some r →
        t.bus = s.bus ∧ t.cpu = { s.cpu.setReg r (g (s.source y).1 s.cpu.flagC).res with f := t.cpu.f }) ∧
      (reg8OfCode y = none →
        t.bus = ((s.bus.advance (some s.cpu.hl)).cpuWrite s.cpu.hl (g (s.source y).1 s.cpu.flagC).res).advance
          (some s.cpu.hl) ∧
        t.cpu = { s.cpu with f := t.cpu.f }) := by
  unfold stepSource State.source
  cases reg8OfCode y with
  | some r => exact ⟨_, rfl, rfl, fun r' hr => by cases hr; exact ⟨rfl, rfl⟩, nofun⟩
  | none => exact ⟨_, rfl, rfl, nofun, fun _ => ⟨rfl, rfl⟩⟩

theorem exec_incSource (y : BitVec 3) (b1 b2 : Byte) (s : State) :
    exec (decodeOp (0#2 ++ y ++ 4#3) b1 b2) s = stepSource inc8 y s := by
  revert y
  refine forall_code3 _ fun y => ?_
  fin_cases y <;> rfl

theorem exec_decSource (y : BitVec 3) (b1 b2 : Byte) (s : State) :
    exec (decodeOp (0#2 ++ y ++ 5#3) b1 b2) s = stepSource dec8 y s := by
  revert y
  refine forall_code3 _ fun y => ?_
  fin_cases y <;> rfl

theorem inc8_res (v : Byte) (c : Bool) : (inc8 v c).res.toNat = (v.toNat + 1) % 256 := BitVec.toNat_add v 1

theorem dec8_res (v : Byte) (c : Bool) : (dec8 v c).res.toNat = (v.toNat + 255) % 256 := by
  rw [Nat.add_comm]
  exact BitVec.toNat_sub v 1

/-- Settles O32: the opcode is `inc8` or `dec8` on the operand that its field y names. -/
theorem incDec : Obligations.IncDec := by
  intro y b1 b2 s
  simp only [List.forall_mem_cons, List.not_mem_nil, false_imp_iff, implies_true, and_true]
  constructor
  · obtain ⟨t, ht, hf, hreg, hmem⟩ := stepSource_next inc8 y s
    exact ⟨t, _, (exec_incSource y b1 b2 s).trans ht, inc8_res _ s.cpu.flagC,
      t.cpu.flagsAre_of_pack _ _ _ _ _ _ _ _ hf beq_iff_eq Bool.false_eq_true.to_iff (low_nibble _).1 Iff.rfl,
      hreg, hmem⟩
  · obtain ⟨t, ht, hf, hreg, hmem⟩ := stepSource_next dec8 y s
    exact ⟨t, _, (exec_decSource y b1 b2 s).trans ht, dec8_res _ s.cpu.flagC,
      t.cpu.flagsAre_of_pack _ _ _ _ _ _ _ _ hf beq_iff_eq (eq_self true).to_iff (low_nibble _).2 Iff.rfl,
      hreg, hmem⟩

/-! ## DAA -/

/-- After an addition both conditions can be taken from the byte before, since adding 0x60 leaves the low digit. -/
theorem daaAdd_toNat (a : Byte) (h c : Bool) :
    (daaAdd a h c).1.toNat =
      (a.toNat + (if c = true ∨ a.toNat > 0x99 then 0x60 else 0) +
        (if h = true ∨ a.toNat % 16 > 9 then 0x06 else 0)) % 256 := by
  have h60 (w : Byte) : (w + 0x60).toNat = (w.toNat + 0x60) % 256 := BitVec.toNat_add w 0x60
  have h06 (w : Byte) : (w + 0x06).toNat = (w.toNat + 0x06) % 256 := BitVec.toNat_add w 0x06
  have hlow : (a.toNat + 0x60) % 256 % 16 = a.toNat % 16 := by omega
  have ha := a.isLt
  simp only [daaAdd, Bool.or_eq_true, decide_eq_true_eq]
  by_cases hup : c = true ∨ a.toNat > 0x99
  · simp only [if_pos hup, h60, hlow]
    split
    · rw [h06, h60, Nat.mod_add_mod]
    · exact h60 a
  · simp only [if_neg hup]
    split
    · exact h06 a
    · exact (Nat.mod_eq_of_lt ha).symm

theorem daaAdd_carry (a : Byte) (h c : Bool) : (daaAdd a h c).2 = true ↔ c = true ∨ a.toNat > 0x99 := by
  simp only [daaAdd, Bool.or_eq_true, decide_eq_true_eq]

theorem daaSub_toNat (a : Byte) (h c : Bool) :
    ((daaSub a h c).1.toNat : Int) =
      ((a.toNat : Int) - (if c then 0x60 else 0) - (if h then 0x06 else 0)) % 256 := by
  have h60 (w : Byte) : (w - 0x60).toNat = (160 + w.toNat) % 256 := BitVec.toNat_sub w 0x60
  have h06 (w : Byte) : (w - 0x06).toNat = (250 + w.toNat) % 256 := BitVec.toNat_sub w 0x06
  unfold daaSub
  cases c <;> cases h <;> simp only [Bool.false_eq_true, if_true, if_false, h60, h06] <;> omega

theorem exec_daa_of_not_flagN {s : State} (hn : s.cpu.flagN = false) :
    exec .daa s = .next { s with cpu := { s.cpu with
      a := (daaAdd s.cpu.a s.cpu.flagH s.cpu.flagC).1
      f := packFlags ((daaAdd s.cpu.a s.cpu.flagH s.cpu.flagC).1 == 0) false false
        (daaAdd s.cpu.a s.cpu.flagH s.cpu.flagC).2 } } := by
  change execDaa s = _
  rw [execDaa, State.mapCpu, hn]
  rfl

theorem exec_daa_of_flagN {s : State} (hn : s.cpu.flagN = true) :
    exec .daa s = .next { s with cpu := { s.cpu with
      a := (daaSub s.cpu.a s.cpu.flagH s.cpu.flagC).1
      f := packFlags ((daaSub s.cpu.a s.cpu.flagH s.cpu.flagC).1 == 0) true false s.cpu.flagC } } := by
  change execDaa s = _
  rw [execDaa, State.mapCpu, hn]
  rfl

/-- Settles O33: `daaAdd` or `daaSub`, by N, with Z of the result. -/
theorem daaMeaning : Obligations.DaaMeaning := by
  intro s a up low
  have hff : false = true ↔ False := Bool.false_eq_true.to_iff
  have hadd : (daaAdd s.cpu.a s.cpu.flagH s.cpu.flagC).1.toNat =
      (a + (if up then 0x60 else 0) + (if low then 0x06 else 0)) % 256 := daaAdd_toNat _ _ _
  have ha : a % 256 = a := Nat.mod_eq_of_lt s.cpu.a.isLt
  cases hn : s.cpu.flagN
  · refine ⟨_, exec_daa_of_not_flagN hn, rfl, rfl, fun _ => ⟨?_, ?_, ?_, ?_, ?_⟩, nofun⟩
    · exact fun hup hlow => by rw [hadd, if_neg hup, if_neg hlow]; exact ha
    · exact fun hup hlow => by rw [hadd, if_neg hup, if_pos hlow]
    · exact fun hup hlow => by rw [hadd, if_pos hup, if_neg hlow]
    · exact fun hup hlow => by rw [hadd, if_pos hup, if_pos hlow]
    · exact Cpu.flagsAre_of_pack _ _ _ _ _ _ _ _ _ rfl beq_iff_eq hff hff (daaAdd_carry _ _ _)
  · refine ⟨_, exec_daa_of_flagN hn, rfl, rfl, nofun, fun _ => ⟨daaSub_toNat _ _ _, ?_⟩⟩
    exact Cpu.flagsAre_of_pack _ _ _ _ _ _ _ _ _ rfl beq_iff_eq (eq_self true).to_iff hff Iff.rfl

/-! ## DAA after ADD and SUB of two BCD bytes

The sum or the difference of two BCD bytes is `16 * p + q` where the decimal one is `10 * p + q`: `p` and `q` are the sums
or the differences of their high and of their low digits. -/

theorem bcd_toNat {x : Nat} (hx : x < 100) : (bcd x).toNat = 16 * (x / 10) + x % 10 := by
  rw [bcd, BitVec.toNat_ofNat]
  omega

theorem bcd_low {x : Nat} (hx : x < 100) : (bcd x).toNat % 16 = x % 10 := by
  rw [bcd_toNat hx, Nat.mul_add_mod]
  omega

theorem eq_bcd_mod {v : Byte} {x : Nat} (hv : v.toNat = 16 * (x / 10 % 10) + x % 10) : v = bcd (x % 100) := by
  apply BitVec.eq_of_toNat_eq
  rw [hv, bcd_toNat (Nat.mod_lt x (by decide))]
  omega

/-- After a sum of digits, the half carry or a low half that is no digit is the low digits' decimal carry, and the carry
or a byte above 0x99 is the decimal carry; so the adjusted byte has the digits of the decimal sum. -/
theorem daaAdd_of_digits {a : Byte} {h c : Bool} {p q₀ q₁ : Nat} (hp : p ≤ 18) (h₀ : q₀ ≤ 9) (h₁ : q₁ ≤ 9)
    (ha : a.toNat = (16 * p + (q₀ + q₁)) % 256) (hh : h = true ↔ q₀ + q₁ > 0x0F)
    (hc : c = true ↔ 16 * p + (q₀ + q₁) > 0xFF) :
    (daaAdd a h c).1.toNat = 16 * ((10 * p + (q₀ + q₁)) / 10 % 10) + (10 * p + (q₀ + q₁)) % 10 ∧
      ((daaAdd a h c).2 = true ↔ 100 ≤ 10 * p + (q₀ + q₁)) := by
  have hlow : h = true ∨ a.toNat % 16 > 9 ↔ 9 < q₀ + q₁ := by rw [hh, ha]; omega
  have hup : c = true ∨ a.toNat > 0x99 ↔ 100 ≤ 10 * p + (q₀ + q₁) := by rw [hc, ha]; omega
  rw [daaAdd_carry, hup, daaAdd_toNat, if_congr hlow rfl rfl, if_congr hup rfl rfl, ha, Nat.mul_add_div (by decide),
    Nat.mul_add_mod]
  refine ⟨?_, Iff.rfl⟩
  split_ifs <;> omega

/-- After a difference of digits, the half borrow and the borrow are the decimal ones, so the adjusted byte has the digits
of the decimal difference. -/
theorem daaSub_of_digits {a : Byte} {h c : Bool} {p q : Int} (hp : -9 ≤ p ∧ p ≤ 9) (hq : -9 ≤ q ∧ q ≤ 9)
    (ha : (a.toNat : Int) = (16 * p + q) % 256) (hh : h = true ↔ q < 0) (hc : c = true ↔ 10 * p + q < 0) :
    ((daaSub a h c).1.toNat : Int) = 16 * ((10 * p + q) / 10 % 10) + (10 * p + q) % 10 := by
  have hdiv : (10 * p + q) / 10 = p + q / 10 := by omega
  have hmod : (10 * p + q) % 10 = q % 10 := by omega
  rw [daaSub_toNat, if_congr hh rfl rfl, if_congr hc rfl rfl, ha, hdiv, hmod]
  split_ifs <;> omega

section
variable {x y : Nat} (hx : x < 100) (hy : y < 100) {s : State} (hs : s.cpu.a = bcd x)
include hx hy hs

/-- ADD leaves N 0 and the carries of the binary sum. -/
theorem daa_addAN_bcd :
    ∃ t u, exec (.addAN (bcd y)) s = .next t ∧ exec .daa t = .next u ∧
      u.cpu.a = bcd ((x + y) % 100) ∧ (u.cpu.flagC = true ↔ 100 ≤ x + y) := by
  obtain ⟨t, ht, -, -, hsum, -, hn, hh, hc, -⟩ : SumResult (.addAN (bcd y)) s s (bcd y) 0 :=
    sumResult_of_exec (op := .add) (cy := false) rfl rfl rfl
  have hS : (bcd x).toNat + (bcd y).toNat + 0 = 16 * (x / 10 + y / 10) + (x % 10 + y % 10) := by
    rw [bcd_toNat hx, bcd_toNat hy]
    omega
  have hxy : 10 * (x / 10 + y / 10) + (x % 10 + y % 10) = x + y := by omega
  rw [hs, hS] at hsum hc
  rw [hs, bcd_low hx, bcd_low hy] at hh
  obtain ⟨hval, hcarry⟩ := daaAdd_of_digits (by omega) (by omega) (by omega) hsum hh hc
  rw [hxy] at hval hcarry
  refine ⟨t, _, ht, exec_daa_of_not_flagN (Bool.eq_false_iff.mpr hn.mp), eq_bcd_mod hval, ?_⟩
  rw [(Cpu.flags_of_pack _ _ _ _ _ rfl).2.2.2, hcarry]

/-- SUB leaves N 1 and the borrows of the binary difference. -/
theorem daa_subN_bcd :
    ∃ t u, exec (.subN (bcd y)) s = .next t ∧ exec .daa t = .next u ∧
      u.cpu.a = bcd ((x + 100 - y) % 100) ∧ (u.cpu.flagC = true ↔ x < y) := by
  obtain ⟨t, r, ht, -, hcpu, hdiff, -, hn, hh, hc, -⟩ : DifferenceResult (.subN (bcd y)) s s (bcd y) 0 false :=
    differenceResult_of_exec (op := .sub) (cy := false) rfl rfl rfl
  have ha : t.cpu.a = r := by rw [hcpu]; rfl
  obtain ⟨p, hp⟩ : ∃ p : Int, p = x / 10 - y / 10 := ⟨_, rfl⟩
  obtain ⟨q, hq⟩ : ∃ q : Int, q = x % 10 - y % 10 := ⟨_, rfl⟩
  have hD : (t.cpu.a.toNat : Int) = (16 * p + q) % 256 := by
    rw [ha, hdiff, hs, bcd_toNat hx, bcd_toNat hy]
    congr 1
    omega
  rw [hs, bcd_low hx, bcd_low hy] at hh
  rw [hs, bcd_toNat hx, bcd_toNat hy] at hc
  have hval := daaSub_of_digits (by omega) (by omega) hD (hh.trans (by omega)) (hc.trans (by omega))
  refine ⟨t, _, ht, exec_daa_of_flagN (hn.mpr trivial), eq_bcd_mod ?_, ?_⟩
  · change (daaSub t.cpu.a t.cpu.flagH t.cpu.flagC).1.toNat = _
    omega
  · rw [(Cpu.flags_of_pack _ _ _ _ _ rfl).2.2.2, hc]
    omega

end

/-- Settles O34: the sum and the difference, each adjusted by its decimal carries or borrows. -/
theorem daaDecimal : Obligations.DaaDecimal :=
  fun _ _ _ hx hy hs => ⟨daa_addAN_bcd hx hy hs, daa_subN_bcd hx hy hs⟩

/-! ## CPL, SCF and CCF -/

/-- Settles O35: the flag bytes are packed from the flags before. -/
theorem complementAndCarry : Obligations.ComplementAndCarry := by
  intro s
  have hf : false = true ↔ False := Bool.false_eq_true.to_iff
  have ht : true = true ↔ True := (eq_self true).to_iff
  refine ⟨⟨_, rfl, rfl, rfl, ?_, ?_⟩, ⟨_, rfl, rfl, rfl, ?_⟩, ⟨_, rfl, rfl, rfl, ?_⟩⟩
  · exact BitVec.toNat_not
  · exact Cpu.flagsAre_of_pack _ _ _ _ _ _ _ _ _ rfl Iff.rfl ht ht Iff.rfl
  · exact Cpu.flagsAre_of_pack _ _ _ _ _ _ _ _ _ rfl Iff.rfl hf hf ht
  · exact Cpu.flagsAre_of_pack _ _ _ _ _ _ _ _ _ rfl Iff.rfl hf hf (Bool.not_eq_true' _).to_iff

end Sys2Proof.Machine
end

section
/-! PROOFS. 43_alu16.md, 16-bit arithmetic on pairs (R290 to R292). An opcode is taken to the operation on the pair that its
field p names; the rest is said once for a pair, by the integers that words stand for (00_scope.md R20). -/

namespace Sys2Proof.Machine

/-! ## The opcode field p -/

theorem exec_addHlCode (p : BitVec 2) (b1 b2 : Byte) (s : State) :
    exec (decodeOp (0#2 ++ p ++ 9#4) b1 b2) s = addHlPair (pairOfCode p) s := by
  revert p
  refine forall_code2 _ fun p => ?_
  fin_cases p <;> rfl

theorem exec_incCode (p : BitVec 2) (b1 b2 : Byte) (s : State) :
    exec (decodeOp (0#2 ++ p ++ 3#4) b1 b2) s = incPair (pairOfCode p) s := by
  revert p
  refine forall_code2 _ fun p => ?_
  fin_cases p <;> rfl

theorem exec_decCode (p : BitVec 2) (b1 b2 : Byte) (s : State) :
    exec (decodeOp (0#2 ++ p ++ 11#4) b1 b2) s = decPair (pairOfCode p) s := by
  revert p
  refine forall_code2 _ fun p => ?_
  fin_cases p <;> rfl

/-! ## ADD HL,rr -/

/-- A flag byte of `addHlFlags` reads as Z kept and the carries out of bits 11 and 15 (R290). -/
theorem Cpu.flagsAre_of_addHl {c : Cpu} {hl rr : Word} {z : Bool} (hf : c.f = addHlFlags hl rr z) :
    c.FlagsAre (z = true) False (hl.toNat % 4096 + rr.toNat % 4096 > 0x0FFF) (hl.toNat + rr.toNat > 0xFFFF) :=
  c.flagsAre_of_pack _ _ _ _ _ _ _ _ hf Iff.rfl Bool.false_eq_true.to_iff decide_eq_true_iff decide_eq_true_iff

/-- Settles O36: HL is written with the sum of the words before, and the flags are those of the same words. -/
theorem addHl : Obligations.AddHl := by
  intro p b1 b2 s hl rr
  have hhl : s.cpu.hl.toNat = hl := s.cpu.hl_toNat
  rw [← hhl]
  exact ⟨_, exec_addHlCode p b1 b2 s, rfl, rfl, (s.cpu.setHl_toNat _).trans (BitVec.toNat_add _ _),
    Cpu.flagsAre_of_addHl rfl⟩

/-! ## INC rr and DEC rr -/

theorem toNat_sub_one (w : Word) : (w - 1).toNat = (w.toNat + 65535) % 65536 := by
  rw [Nat.add_comm]
  exact BitVec.toNat_sub w 1

/-- Settles O37: the stated next states are `incPair`'s and `decPair`'s, so what is left is the stepped word's integer. -/
theorem incDecPair : Obligations.IncDecPair := by
  intro p b1 b2 s
  simp only [List.forall_mem_cons, List.not_mem_nil, false_imp_iff, implies_true, and_true]
  constructor
  · exact ⟨_, BitVec.toNat_add _ 1, exec_incCode p b1 b2 s⟩
  · exact ⟨_, toNat_sub_one _, exec_decCode p b1 b2 s⟩

end Sys2Proof.Machine
end


section
/-! PROOFS. 44_rotate_shift_bit.md, rotates, shifts and bits (R300 to R326). A prefixed opcode is taken, once for the whole
map of R164, to the operation of its field x on the operand that its field z names; the field y names the rotate or shift, or
the bit. -/

namespace Sys2Proof.Machine

/-! ## The prefixed opcode and its fields -/

/-- The prefixed map is what the fields say, read off as a grid (R156, R164). -/
theorem exec_decodeCb (op2 : Byte) (s : State) : exec (decodeCb op2) s = execPrefixCb op2 s :=
  apply_getD_of_map_eq_grid (f := (exec · s)) (g := (execPrefixCb · s)) rfl op2 .nop

/-- The fields x, y, z of an opcode put together from them (R152). -/
theorem opcode_fields (x : BitVec 2) (y z : BitVec 3) :
    (x ++ y ++ z).extractLsb' 6 2 = x ∧ (x ++ y ++ z).extractLsb' 3 3 = y ∧ (x ++ y ++ z).extractLsb' 0 3 = z := by
  revert x y z
  decide +kernel

/-- A change `g` of the operand that the code `z` names, without a flag. -/
def changeSource (g : Byte → Byte) (z : BitVec 3) (s : State) : Result :=
  match reg8OfCode z with
  | some r => changeReg g r s
  | none => changeMem g s

/-- The test of bit `b` of the operand that the code `z` names, in the state after reading it. -/
def bitSource (b : Nat) (z : BitVec 3) (s : State) : Result :=
  .next ((s.source z).2.mapCpu fun c => { c with f := bitFlags (s.source z).1 b c.flagC })

/-- The operation of the prefixed opcode with the fields `x`, `y` and `z`, on its operand (R156). -/
def execCbFields (x : BitVec 2) (y z : BitVec 3) (s : State) : Result :=
  match x.toNat with
  | 0 => stepSource (rotOfCode y).apply z s
  | 1 => bitSource y.toNat z s
  | 2 => changeSource (clearBit y.toNat) z s
  | _ => changeSource (setBit y.toNat) z s

/-- Each of the four operations is the register's or the memory's form of it, by whether `z` names a register. -/
theorem exec_decodeCb_append (x : BitVec 2) (y z : BitVec 3) (s : State) :
    exec (decodeCb (x ++ y ++ z)) s = execCbFields x y z s := by
  revert x
  refine forall_code2 _ fun n => ?_
  obtain ⟨hx, hy, hz⟩ := opcode_fields (.ofFin n) y z
  rw [exec_decodeCb, execPrefixCb, hx, hy, hz]
  unfold execCbFields stepSource bitSource changeSource State.source
  cases reg8OfCode z with
  | some r => fin_cases n <;> rfl
  | none => fin_cases n <;> rfl

/-! ## Rotates and shifts -/

/-- The accumulator rotate of any code `y`: Z is 0 whatever the result. -/
theorem rotA_next (y : BitVec 3) (s : State) :
    ∃ t, rotA (rotOfCode y) s = .next t ∧ t.bus = s.bus ∧ t.cpu = { s.cpu with a := t.cpu.a, f := t.cpu.f } ∧
      t.cpu.a.toNat = rotated y s.cpu.a.toNat s.cpu.flagC.toNat ∧
      t.cpu.FlagsAre False False False (rotatedOut y s.cpu.a.toNat) := by
  have hf : false = true ↔ False := Bool.false_eq_true.to_iff
  exact ⟨_, rfl, rfl, rfl, RotOp.result_code _ y rfl _ _,
    Cpu.flagsAre_of_pack _ _ _ _ _ _ _ _ _ rfl hf hf hf (RotOp.carry_code _ y rfl _)⟩

/-- Settles O38: each is the accumulator rotate of its code. -/
theorem accumulatorRotates : Obligations.AccumulatorRotates := by
  intro s
  simp only [List.forall_mem_cons, List.not_mem_nil, false_imp_iff, implies_true, and_true]
  exact ⟨rotA_next 0 s, rotA_next 1 s, rotA_next 2 s, rotA_next 3 s⟩

/-- Settles O39: the opcode is the rotate or shift of its field y on the operand that its field z names. -/
theorem prefixedRotates : Obligations.PrefixedRotates := by
  intro y z s
  obtain ⟨t, ht, hf, hreg, hmem⟩ := stepSource_next (rotOfCode y).apply z s
  exact ⟨t, _, (exec_decodeCb_append 0 y z s).trans ht, RotOp.result_code _ y rfl _ s.cpu.flagC,
    t.cpu.flagsAre_of_pack _ _ _ _ _ _ _ _ hf beq_iff_eq Bool.false_eq_true.to_iff Bool.false_eq_true.to_iff
      (RotOp.carry_code _ y rfl _),
    hreg, hmem⟩

/-! ## BIT -/

/-- Settles O40: reading the operand leaves the Cpu alone, and `bitFlags` writes F alone. -/
theorem bitTest : Obligations.BitTest := by
  intro y z s
  refine ⟨_, exec_decodeCb_append 1 y z s, rfl, ?_⟩
  rw [State.mapCpu_cpu, s.source_cpu z]
  exact ⟨rfl, Cpu.flagsAre_of_pack _ _ _ _ _ _ _ _ _ rfl (Bool.not_eq_true' _).to_iff Bool.false_eq_true.to_iff
    (eq_self true).to_iff Iff.rfl⟩

/-! ## RES and SET -/

theorem getLsbD_one_shiftLeft (b : Nat) {j : Nat} (hj : j < 8) : (1#8 <<< b).getLsbD j = decide (j = b) := by
  refine (BitVec.getLsbD_twoPow b j).trans ?_
  rw [← Bool.decide_and, decide_eq_decide]
  omega

theorem getLsbD_clearBit (b : Nat) (v : Byte) {j : Nat} (hj : j < 8) :
    (clearBit b v).getLsbD j = if j = b then false else v.getLsbD j := by
  rw [clearBit, BitVec.getLsbD_and, BitVec.getLsbD_not, getLsbD_one_shiftLeft b hj]
  by_cases hjb : j = b <;> simp [hjb, hj]

theorem getLsbD_setBit (b : Nat) (v : Byte) {j : Nat} (hj : j < 8) :
    (setBit b v).getLsbD j = if j = b then true else v.getLsbD j := by
  rw [setBit, BitVec.getLsbD_or, getLsbD_one_shiftLeft b hj]
  by_cases hjb : j = b <;> simp [hjb]

/-- Where a change without a flag puts its result: in the register, or at HL after the read M-cycle. -/
theorem changeSource_next (g : Byte → Byte) (z : BitVec 3) (s : State) :
    (∀ r, reg8OfCode z = some r →
      changeSource g z s = .next { s with cpu := s.cpu.setReg r (g (s.source z).1) }) ∧
    (reg8OfCode z = none →
      changeSource g z s = .next { s with
        bus := ((s.bus.advance (some s.cpu.hl)).cpuWrite s.cpu.hl (g (s.source z).1)).advance (some s.cpu.hl) }) := by
  unfold changeSource State.source
  cases reg8OfCode z with
  | some r => exact ⟨fun r' hr => by cases hr; rfl, nofun⟩
  | none => exact ⟨nofun, fun _ => rfl⟩

/-- Settles O41: the opcode clears or sets the bit of its field y in the operand that its field z names. -/
theorem resSet : Obligations.ResSet := by
  intro y z s
  simp only [List.forall_mem_cons, List.not_mem_nil, false_imp_iff, implies_true, and_true]
  constructor
  · refine ⟨_, fun _ => getLsbD_clearBit _ _, ?_⟩
    rw [exec_decodeCb_append 2 y z s]
    exact changeSource_next (clearBit y.toNat) z s
  · refine ⟨_, fun _ => getLsbD_setBit _ _, ?_⟩
    rw [exec_decodeCb_append 3 y z s]
    exact changeSource_next (setBit y.toNat) z s

end Sys2Proof.Machine
end


section
/-! PROOFS. 45_control.md, jumps, calls and returns (R330 to R340). The state that each operation leaves when it is taken is
said once; that a conditional instruction is taken exactly when its flag has the value of its condition is said once for the
four conditions. A call pushes the return address, so on a stack in HRAM RET pops what CALL pushed. -/

namespace Sys2Proof.Machine

/-! ## Conditions -/

/-- The bit of F that a condition tests (10_state.md R37) and the value it wants there (00_scope.md R23). -/
def Cond.wants : Cond → Nat × Bool
  | .nz => (7, false)
  | .z => (7, true)
  | .nc => (4, false)
  | .c => (4, true)

theorem Cpu.cond_iff (c : Cpu) (cc : Cond) : c.cond cc = true ↔ c.f.getLsbD cc.wants.1 = cc.wants.2 := by
  cases cc with
  | nz | nc => exact (Bool.not_eq_true' _).to_iff
  | z | c => exact Iff.rfl

theorem ite_cond_of_wants {c : Cpu} {cc : Cond} (taken skipped : Result) (h : c.f.getLsbD cc.wants.1 = cc.wants.2) :
    (if c.cond cc then taken else skipped) = taken := if_pos ((c.cond_iff cc).mpr h)

theorem ite_cond_of_not_wants {c : Cpu} {cc : Cond} (taken skipped : Result)
    (h : c.f.getLsbD cc.wants.1 ≠ cc.wants.2) : (if c.cond cc then taken else skipped) = skipped :=
  if_neg (mt (c.cond_iff cc).mp h)

/-! ## Jumps -/

/-- The target of a relative jump on the integers (R333). -/
theorem relative_eq_ofInt (s : State) (e : Byte) : relative s e = BitVec.ofInt 16 (s.cpu.pc.toNat + e.toInt) := by
  apply BitVec.eq_of_toNat_eq
  have hsum := add_sext16_toNat s.cpu.pc e
  rw [relative, BitVec.toNat_ofInt]
  omega

/-- A jump taken costs one internal M-cycle and writes pc alone; one not taken does nothing (R331, R334). -/
theorem jumpIf_jumped (s : State) (cc : Cond) (target : Word) :
    (s.cpu.f.getLsbD cc.wants.1 = cc.wants.2 → ∃ t, jumpIf cc target s = .next t ∧
      t = { cpu := { s.cpu with pc := target }, bus := s.bus.advance none }) ∧
    (s.cpu.f.getLsbD cc.wants.1 ≠ cc.wants.2 → jumpIf cc target s = .next s) :=
  ⟨fun h => ⟨_, ite_cond_of_wants _ _ h, rfl⟩, fun h => ite_cond_of_not_wants _ _ h⟩

/-- Settles O43: the conditional forms are one operation of their condition, on an absolute and on a relative target. -/
theorem jumps : Obligations.Jumps := by
  intro s nn e jumped rel
  have hrel : relative s e = rel := relative_eq_ofInt s e
  have hif (cc : Cond) :
      (s.cpu.f.getLsbD cc.wants.1 = cc.wants.2 →
        (∃ t, jumpIf cc nn s = .next t ∧ jumped nn t) ∧
        ∃ t, jumpIf cc (relative s e) s = .next t ∧ jumped rel t) ∧
      (s.cpu.f.getLsbD cc.wants.1 ≠ cc.wants.2 →
        jumpIf cc nn s = .next s ∧ jumpIf cc (relative s e) s = .next s) := by
    obtain ⟨habs, habs'⟩ := jumpIf_jumped s cc nn
    obtain ⟨hjr, hjr'⟩ := jumpIf_jumped s cc (relative s e)
    exact ⟨fun h => ⟨habs h, hrel ▸ hjr h⟩, fun h => ⟨habs' h, hjr' h⟩⟩
  simp only [List.forall_mem_cons, List.not_mem_nil, false_imp_iff, implies_true, and_true]
  exact ⟨rfl, ⟨_, rfl, rfl⟩, ⟨_, rfl, hrel ▸ rfl⟩, hif .nz, hif .z, hif .nc, hif .c⟩

/-! ## Calls -/

theorem State.called_callTo (s : State) (target : Word) : Called s (s.callTo target) target := by
  rw [Called, State.callTo, State.pushWord_eq, ofNat_high, ofNat_low]
  rfl

theorem callIf_called (s : State) (cc : Cond) (target : Word) :
    (s.cpu.f.getLsbD cc.wants.1 = cc.wants.2 → ∃ t, callIf cc target s = .next t ∧ Called s t target) ∧
    (s.cpu.f.getLsbD cc.wants.1 ≠ cc.wants.2 → callIf cc target s = .next s) :=
  ⟨fun h => ⟨_, ite_cond_of_wants _ _ h, s.called_callTo target⟩, fun h => ite_cond_of_not_wants _ _ h⟩

/-- RST calls 8 times its field y (R340). -/
theorem exec_rstCode (y : BitVec 3) (b1 b2 : Byte) (s : State) :
    exec (decodeOp (3#2 ++ y ++ 7#3) b1 b2) s = call (BitVec.ofNat 16 (8 * y.toNat)) s := by
  revert y
  refine forall_code3 _ fun y => ?_
  fin_cases y <;> rfl

/-- Settles O44: CALL, CALL cc when taken and RST are one call, each of its own target. -/
theorem callRst : Obligations.CallRst := by
  intro s nn
  simp only [List.forall_mem_cons, List.not_mem_nil, false_imp_iff, implies_true, and_true]
  exact ⟨⟨_, rfl, s.called_callTo nn⟩,
    ⟨callIf_called s .nz nn, callIf_called s .z nn, callIf_called s .nc nn, callIf_called s .c nn⟩,
    fun y b1 b2 => ⟨_, exec_rstCode y b1 b2 s, s.called_callTo _⟩⟩

/-! ## Returns -/

theorem State.returned_returnToCaller (s : State) : Returned s s.returnToCaller s.bus := by
  rw [Returned, State.returnToCaller, State.popCycles_eq, State.popValue_eq]
  rfl

/-- A conditional return tests its condition in an M-cycle of its own, and returns after it (R338). -/
theorem retIf_returned (s : State) (cc : Cond) :
    (s.cpu.f.getLsbD cc.wants.1 = cc.wants.2 → ∃ t, retIf cc s = .next t ∧ Returned s t (s.bus.advance none)) ∧
    (s.cpu.f.getLsbD cc.wants.1 ≠ cc.wants.2 → retIf cc s = .next { s with bus := s.bus.advance none }) :=
  ⟨fun h => ⟨_, ite_cond_of_wants _ _ h, s.internal.returned_returnToCaller⟩, fun h => ite_cond_of_not_wants _ _ h⟩

/-- Settles O45: RET, RETI and RET cc when taken are one return, RET cc's after its internal M-cycle. -/
theorem returns : Obligations.Returns := by
  intro s
  simp only [List.forall_mem_cons, List.not_mem_nil, false_imp_iff, implies_true, and_true]
  exact ⟨⟨_, rfl, s.returned_returnToCaller⟩, ⟨_, rfl, s.returned_returnToCaller⟩,
    retIf_returned s .nz, retIf_returned s .z, retIf_returned s .nc, retIf_returned s .c⟩

/-! ## RET after CALL -/

/-- What RET pops after a call on a stack in HRAM is the pc that the call pushed. -/
theorem popValue_callTo {s : State} (target : Word) (hw : s.bus.mem.wf = true) (hv : s.bus.Valid)
    (h1 : InHram (s.cpu.sp - 1)) (h2 : InHram (s.cpu.sp - 2)) : (s.callTo target).popValue = s.cpu.pc :=
  popValue_pushWord (s := s.internalIdu s.cpu.sp) s.cpu.pc (s.bus.advance_wf _ hw) (s.bus.advance_valid _ hv) h1 h2

/-- Settles O46: the call changes SP and pc alone, and the return restores both. -/
theorem callReturn : Obligations.CallReturn := by
  intro s nn hw hvalid h1 h2
  have hv : s.bus.Valid := ((State.valid_iff s).mp hvalid).2
  refine ⟨s.callTo nn, (s.callTo nn).returnToCaller, rfl, rfl, rfl, ?_⟩
  rw [State.returnToCaller_cpu, popValue_callTo nn hw hv h1 h2]
  simp

end Sys2Proof.Machine
end


section
/-! PROOFS. 46_system.md, 0xCB, NOP, DI, EI, HALT and STOP (R360 to R365). HALT tests a 5-bit word of requests, which
is read here bit by bit; STOP is the divider write of R443, whose effects on the timer are said once. -/

namespace Sys2Proof.Machine

/-! ## The byte 0xCB -/

/-- 0xCB takes one more byte, which selects a row of the prefixed map (R166). -/
theorem decode_cb (op2 : Byte) (rest : List Byte) : decode (0xCB :: op2 :: rest) = .ok (decodeCb op2, rest) := rfl

/-- Every combination of the fields x, y and z has a next state. -/
theorem execPrefixCb_next (op2 : Byte) (s : State) : ∃ t, execPrefixCb op2 s = .next t := by
  unfold execPrefixCb
  dsimp only
  split <;> exact ⟨_, rfl⟩

/-- Settles O42: 0xCB executes by the fields of its second byte, and so does every row of the prefixed map. -/
theorem prefixSelects : Obligations.PrefixSelects := by
  intro op2 rest s
  exact ⟨decode_cb op2 rest, (exec_decodeCb op2 s).symm, execPrefixCb_next op2 s⟩

/-! ## NOP, DI, EI and HALT -/

/-- A request is pending exactly when it is enabled and set in IF (R401). -/
theorem Bus.getLsbD_pending (b : Bus) {k : Nat} (hk : k < 5) :
    b.pending.getLsbD k = (b.irq.ie.getLsbD k && b.irq.iflag.getLsbD k) := by
  simp [Bus.pending, hk]

theorem Bus.pending_eq_zero_iff (b : Bus) :
    b.pending = 0 ↔ ∀ k, k < 5 → b.irq.ie.getLsbD k = false ∨ b.irq.iflag.getLsbD k = false := by
  rw [BitVec.eq_of_getLsbD_eq_iff]
  refine forall₂_congr fun k hk => ?_
  have hzero : (0 : BitVec 5).getLsbD k = false := BitVec.getLsbD_zero
  rw [b.getLsbD_pending hk, hzero, Bool.and_eq_false_iff]

theorem Bus.pending_ne_zero_iff (b : Bus) :
    b.pending ≠ 0 ↔ ∃ k, k < 5 ∧ b.irq.ie.getLsbD k = true ∧ b.irq.iflag.getLsbD k = true := by
  rw [ne_eq, b.pending_eq_zero_iff]
  simp

/-- EI starts its delay only where it is neither running nor IME already set (R364). -/
theorem execEi_start {s : State} (hime : s.cpu.ime = false) (hd : s.cpu.eiDelay = 0) :
    execEi s = .next { s with cpu := { s.cpu with eiDelay := 2 } } := by
  rw [execEi, State.mapCpu, if_pos ⟨hime, hd⟩]

theorem execEi_skip {s : State} (h : s.cpu.ime = true ∨ s.cpu.eiDelay ≠ 0) : execEi s = .next s := by
  rw [execEi, State.mapCpu, if_neg (by simpa [imp_iff_not_or] using h)]

/-- HALT by what is pending and by IME (R361). -/
theorem execHalt_idle {s : State} (h : s.bus.pending = 0) :
    execHalt s = .next { s with cpu := { s.cpu with run := .halted } } :=
  if_neg (not_not_intro h)

theorem execHalt_bug {s : State} (h : s.bus.pending ≠ 0) (hime : s.cpu.ime = false) :
    execHalt s = .next { s with cpu := { s.cpu with haltBug := true } } := by
  rw [execHalt, if_pos h, hime]
  rfl

theorem execHalt_skip {s : State} (h : s.bus.pending ≠ 0) (hime : s.cpu.ime = true) : execHalt s = .next s := by
  rw [execHalt, if_pos h, if_pos hime]

/-- Settles O47: NOP and DI by definition, EI and HALT case by case. -/
theorem systemInstructions : Obligations.SystemInstructions := by
  intro s
  rw [← s.bus.pending_eq_zero_iff, ← s.bus.pending_ne_zero_iff]
  exact ⟨rfl, rfl, execEi_start, execEi_skip, execHalt_idle, fun hp => ⟨execHalt_bug hp, execHalt_skip hp⟩⟩

/-! ## STOP -/

/-- Counting an edge leaves the divider alone (R441). -/
@[simp] theorem Timer.countEdge_div16 (old new : Timer) : (Timer.countEdge old new).div16 = new.div16 := by
  unfold Timer.countEdge Timer.increment
  split
  · split <;> rfl
  · rfl

/-- What a new divider value does to the timer: nothing of the DIV-APU or serial edges reaches it (R441, R447, R465). -/
@[simp] theorem Bus.setDivider_timer (b : Bus) (d : Word) :
    (b.setDivider d).timer = Timer.countEdge b.timer { b.timer with div16 := d } := by
  unfold Bus.setDivider
  dsimp only
  split <;> split <;> simp [Bus.divApuTick]

/-- A DIV write clears the divider, whatever the value (R443). -/
theorem Bus.ioWrite_div (b : Bus) (v : Byte) : b.ioWrite 0xFF04 v = b.setDivider 0 := rfl

/-- Settles O48: STOP's bus is the one of a DIV write, which leaves memory and time alone. -/
theorem stopMeaning : Obligations.StopMeaning := by
  intro s
  have hdiv : (s.bus.setDivider 0).timer.div16 = 0 := by
    rw [Bus.setDivider_timer, Timer.countEdge_div16]
  exact ⟨_, rfl, rfl, hdiv, (s.bus.ioWrite_div 0).symm, s.bus.setDivider_mem 0, s.bus.setDivider_cycles 0⟩

end Sys2Proof.Machine
end

section
/-! PROOFS. 60_exceptions.md, the outcomes of an instruction (R366, R405, R408) and who writes the Cpu's interrupt and run
state (R361, R362, R410). The illegal opcodes alone fault, and five instructions alone write that state. -/

namespace Sys2Proof.Machine

/-! ## Outcomes -/

theorem jumpIf_next (cc : Cond) (a : Word) (s : State) : ∃ t, jumpIf cc a s = .next t := by
  unfold jumpIf
  split <;> exact ⟨_, rfl⟩

theorem callIf_next (cc : Cond) (a : Word) (s : State) : ∃ t, callIf cc a s = .next t := by
  unfold callIf
  split <;> exact ⟨_, rfl⟩

theorem retIf_next (cc : Cond) (s : State) : ∃ t, retIf cc s = .next t := by
  unfold retIf
  split <;> exact ⟨_, rfl⟩

theorem execHalt_next (s : State) : ∃ t, execHalt s = .next t := by
  unfold execHalt
  split
  · split <;> exact ⟨_, rfl⟩
  · exact ⟨_, rfl⟩

theorem exec_next {i : Instr} (s : State) (hi : i ∉ illegalInstrs.map Prod.fst) : ∃ t, exec i s = .next t := by
  cases i
  case illegalD3 | illegalDB | illegalDD | illegalE3 | illegalE4 | illegalEB | illegalEC | illegalED | illegalF4
      | illegalFC | illegalFD =>
    exact absurd (by decide) hi
  case jrNzE | jrZE | jrNcE | jrCE | jpNzNn | jpZNn | jpNcNn | jpCNn => exact jumpIf_next _ _ s
  case callNzNn | callZNn | callNcNn | callCNn => exact callIf_next _ _ s
  case retNz | retZ | retNc | retC => exact retIf_next _ s
  case halt => exact execHalt_next s
  case prefixCb op2 => exact execPrefixCb_next op2 s
  all_goals exact ⟨_, rfl⟩

theorem exec_illegal {i : Instr} {op : Byte} (s : State) (hi : (i, op) ∈ illegalInstrs) :
    exec i s = s.raiseUnimplemented op := by
  have hall : ∀ p ∈ illegalInstrs, exec p.1 s = s.raiseUnimplemented p.2 := by
    simp only [illegalInstrs, List.forall_mem_cons, List.not_mem_nil, false_imp_iff, implies_true, and_true]
    exact ⟨rfl, rfl, rfl, rfl, rfl, rfl, rfl, rfl, rfl, rfl, rfl⟩
  exact hall _ hi

/-- Settles O14: the illegal opcodes raise, and every other operation ends in a next state on each of its branches. -/
theorem execOutcomes : Obligations.ExecOutcomes :=
  ⟨fun _ s hi => exec_next s hi, fun _ _ s hi => exec_illegal s hi⟩

/-! ## IME, the run mode and the halt bug -/

/-- The Cpu's interrupt and run state: IME, `ei_delay`, `run` and the halt bug (10_state.md R40 to R43). -/
def Cpu.control (c : Cpu) : Bool × Fin 3 × RunMode × Bool := (c.ime, c.eiDelay, c.run, c.haltBug)

/-- The instructions that write a part of it. -/
def controlInstrs : List Instr := [.ei, .di, .reti, .halt, .stop]

@[simp] theorem Cpu.setReg_control (c : Cpu) (r : Reg8) (v : Byte) : (c.setReg r v).control = c.control := by
  cases r <;> rfl

theorem execPrefixCb_control {op2 : Byte} {s t : State} (h : execPrefixCb op2 s = .next t) :
    t.cpu.control = s.cpu.control := by
  unfold execPrefixCb at h
  dsimp only at h
  split at h
  case h_1 | h_3 | h_4 => cases h; exact Cpu.setReg_control _ _ _
  case h_2 | h_5 | h_6 | h_7 | h_8 => cases h; rfl

theorem exec_control {i : Instr} {s t : State} (h : exec i s = .next t) (hi : i ∉ controlInstrs) :
    t.cpu.control = s.cpu.control := by
  cases i
  case ei | di | reti | halt | stop => exact absurd (by decide) hi
  case prefixCb => exact execPrefixCb_control h
  case jrNzE | jrZE | jrNcE | jrCE | jpNzNn | jpZNn | jpNcNn | jpCNn => rw [jumpIf_cpu h]; rfl
  case callNzNn | callZNn | callNcNn | callCNn => rw [callIf_cpu h]; rfl
  case retNz | retZ | retNc | retC => rw [retIf_cpu h]; rfl
  all_goals cases h
  all_goals rfl

/-- An instruction is one of the five that write the control state, or keeps all of it. -/
theorem exec_control_cases {i : Instr} {s t : State} (h : exec i s = .next t) :
    i = .ei ∨ i = .di ∨ i = .reti ∨ i = .halt ∨ i = .stop ∨
    (t.cpu.ime = s.cpu.ime ∧ t.cpu.eiDelay = s.cpu.eiDelay ∧ t.cpu.run = s.cpu.run ∧ t.cpu.haltBug = s.cpu.haltBug) := by
  by_cases hi : i ∈ controlInstrs
  · simp only [controlInstrs, List.mem_cons, List.not_mem_nil, or_false] at hi
    tauto
  · have hc := exec_control h hi
    simp only [Cpu.control, Prod.mk.injEq] at hc
    tauto

theorem exec_ime {i : Instr} {s t : State} (h : exec i s = .next t) (hei : i ≠ .ei) (hdi : i ≠ .di) (hreti : i ≠ .reti) :
    t.cpu.ime = s.cpu.ime ∧ t.cpu.eiDelay = s.cpu.eiDelay := by
  rcases exec_control_cases h with rfl | rfl | rfl | rfl | rfl | ⟨hime, hdelay, -, -⟩
  · contradiction
  · contradiction
  · contradiction
  · rw [execHalt_cpu h]; exact ⟨rfl, rfl⟩
  · cases h; exact ⟨rfl, rfl⟩
  · exact ⟨hime, hdelay⟩

theorem exec_run {i : Instr} {s t : State} (h : exec i s = .next t) (hhalt : i ≠ .halt) (hstop : i ≠ .stop) :
    t.cpu.run = s.cpu.run := by
  rcases exec_control_cases h with rfl | rfl | rfl | rfl | rfl | ⟨-, -, hrun, -⟩
  · rw [execEi_cpu h]
  · cases h; rfl
  · cases h; rfl
  · contradiction
  · contradiction
  · exact hrun

theorem exec_haltBug {i : Instr} {s t : State} (h : exec i s = .next t) (hhalt : i ≠ .halt) :
    t.cpu.haltBug = s.cpu.haltBug := by
  rcases exec_control_cases h with rfl | rfl | rfl | rfl | rfl | ⟨-, -, -, hbug⟩
  · rw [execEi_cpu h]
  · cases h; rfl
  · cases h; rfl
  · contradiction
  · cases h; rfl
  · exact hbug

/-- Settles O16, from what the five control instructions write. -/
theorem imeWriters : Obligations.ImeWriters := fun _ _ _ h => ⟨exec_ime h, exec_run h, exec_haltBug h⟩

end Sys2Proof.Machine
end

section
/-! PROOFS. 60_exceptions.md, fetching an instruction and the step by its run mode (R402, R403, R405, R408, R424). A step of a
valid state is the step of its run mode, and the bytes fetched decode to the instruction that it executes. -/

namespace Sys2Proof.Machine

/-! ## Fetching -/

theorem opLength_cases (op : Byte) : opLength op = 1 ∨ opLength op = 2 ∨ opLength op = 3 := by
  unfold opLength
  split
  · exact .inr (.inr rfl)
  split
  · exact .inr (.inl rfl)
  · exact .inl rfl

/-- The bus fetches every byte but STOP's second one (R167). -/
theorem busLength_of_ne_stop {op : Byte} (h : op ≠ 0x10) : busLength op = opLength op := if_neg h

theorem one_le_busLength (op : Byte) : 1 ≤ busLength op := by
  unfold busLength
  split
  · exact Nat.le_refl 1
  · have := opLength_cases op
    omega

/-- The bytes fetched are one instruction, the one that is executed (R169). -/
theorem decode_fetchedBytes (s : State) : decode s.fetchedBytes = .ok (s.fetchedInstr, []) := by
  unfold State.fetchedBytes State.fetchedInstr
  by_cases hop : s.opByte = 0x10
  · rw [hop]
    rfl
  · rw [busLength_of_ne_stop hop, if_neg hop]
    rcases opLength_cases s.opByte with h | h | h <;> simp [decode, h]

theorem fetchImms_cpu (n : Nat) (s : State) :
    (State.fetchImms n s).cpu = { s.cpu with pc := s.cpu.pc + BitVec.ofNat 16 n } := by
  induction n generalizing s with
  | zero => simp [State.fetchImms]
  | succ n ih =>
    rw [State.fetchImms, ih, State.fetchImm8_cpu]
    simp only [Cpu.mk.injEq, true_and, and_true]
    rw [BitVec.add_assoc, Nat.add_comm n 1, BitVec.ofNat_add]
    rfl

theorem fetchImms_cycles (n : Nat) (s : State) : (State.fetchImms n s).bus.cycles = s.bus.cycles + n := by
  induction n generalizing s with
  | zero => rfl
  | succ n ih =>
    rw [State.fetchImms, ih, State.fetchImm8_bus, Bus.advance_cycles]
    omega

/-- The opcode fetch clears the halt bug, which keeps pc once (R403, R419). -/
theorem State.fetchOpcode_cpu (s : State) :
    s.fetchOpcode.cpu = { s.cpu with
      pc := if s.cpu.haltBug then s.cpu.pc else s.cpu.pc + 1, haltBug := false, opAddr := s.cpu.pc } := by
  obtain ⟨c, b⟩ := s
  cases c
  simp only [State.fetchOpcode, State.mapCpu_cpu, State.readCycle_cpu]
  split <;> simp_all

theorem State.fetched_cpu (s : State) :
    s.fetched.cpu = { s.cpu with
      pc := (if s.cpu.haltBug then s.cpu.pc else s.cpu.pc + 1) + BitVec.ofNat 16 (busLength s.opByte - 1)
      haltBug := false, opAddr := s.cpu.pc } := by
  rw [State.fetched, fetchImms_cpu, State.fetchOpcode_cpu]

theorem toNat_add_one (w : Word) : (w + 1).toNat = (w.toNat + 1) % 65536 := BitVec.toNat_add w 1

theorem State.fetched_pc_toNat (s : State) :
    s.fetched.cpu.pc.toNat =
      (s.cpu.pc.toNat + busLength s.opByte - (if s.cpu.haltBug then 1 else 0)) % 65536 := by
  have hlen := one_le_busLength s.opByte
  rw [State.fetched_cpu, BitVec.toNat_add, BitVec.toNat_ofNat]
  split
  · omega
  · rw [toNat_add_one]
    omega

/-- Settles O5: one M-cycle and one place of pc for each byte, but for the halt bug's. -/
theorem fetchCycles : Obligations.FetchCycles := by
  intro s
  have hcpu := s.fetched_cpu
  have hlen := one_le_busLength s.opByte
  refine ⟨⟨_, decode_fetchedBytes s, rfl⟩, by rw [hcpu], s.fetched_pc_toNat, ?_, fun hbug => ?_, rfl⟩
  · rw [State.fetched, fetchImms_cycles, State.fetchOpcode_bus, Bus.advance_cycles]
    omega
  · rw [State.fetchOpcode_cpu, hbug]
    rfl

/-! ## The step by its run mode -/

/-- R407 holds, so the step goes by its run mode. -/
theorem step_eq_stepByMode {s : State} (hv : s.Valid) : step s = s.stepByMode := by
  unfold step State.stepBody State.stepByMode
  rw [show s.violation = none from hv]
  cases s.cpu.run <;> rfl

theorem step_faulted {s : State} {op : Byte} {addr : Word} (h : s.cpu.run = .faulted op addr) :
    step s = .fault (.unimplementedOpcode op addr s) := by
  unfold step State.stepBody
  rw [h]

theorem step_running {s : State} (h : s.cpu.run = .running) (hv : s.Valid) : step s = s.runOne := by
  rw [step_eq_stepByMode hv, State.stepByMode, h]

theorem step_executes {s : State} (h : s.Executes) : step s = finish (exec s.fetchedInstr s.fetched) := by
  obtain ⟨hrun, hv, hno⟩ := h
  rw [step_running hrun hv, State.runOne, if_neg hno]

/-- Settles O4: the bytes fetched decode to one instruction only, which is executed. -/
theorem stepRunsDecoded : Obligations.StepRunsDecoded := by
  intro s i hs hdec
  obtain rfl : s.fetchedInstr = i := by
    rw [decode_fetchedBytes s] at hdec
    cases hdec
    rfl
  refine ⟨(decodeInverse _ _ _ hdec).1, fun t ht => ?_, fun x hx => ?_, fun x hx => ?_⟩
  all_goals rw [step_executes hs]
  · rw [ht]; rfl
  · rw [hx]; rfl
  · rw [hx]; rfl

/-- R407 does not speak of the run mode. -/
theorem State.Valid.resume {s : State} (hv : s.Valid) : s.resume.Valid := hv

theorem Bus.joypadWake_iff (b : Bus) : b.joypadWake = true ↔ b.joypad.lines ≠ 0xF := bne_iff_ne

theorem step_stopped {s : State} (h : s.cpu.run = .stopped) (hv : s.Valid) :
    step s = if s.bus.joypadWake then s.resume.runOne else .next s := by
  rw [step_eq_stepByMode hv, State.stepByMode, h]

/-- Settles O7: the hold answers the state itself, and a low line lets the step run. -/
theorem stoppedHold : Obligations.StoppedHold := by
  intro s hrun hv
  rw [step_stopped hrun hv]
  refine ⟨fun hhigh => if_neg fun hwake => (s.bus.joypadWake_iff.mp hwake) hhigh, fun hlow => ?_⟩
  rw [if_pos (s.bus.joypadWake_iff.mpr hlow)]
  exact (step_running (s := s.resume) rfl hv.resume).symm

/-! ## Faults -/

/-- What `exec` can answer (R408): a next state, or the fault of an illegal opcode. -/
theorem exec_cases (i : Instr) (s : State) :
    (∃ t, exec i s = .next t) ∨ ∃ op, exec i s = s.raiseUnimplemented op := by
  by_cases hi : i ∈ illegalInstrs.map Prod.fst
  · obtain ⟨⟨i, op⟩, hmem, rfl⟩ := List.mem_map.mp hi
    exact .inr ⟨op, exec_illegal s hmem⟩
  · exact .inl (exec_next s hi)

theorem runOne_outcomes (s : State) :
    (∃ t, s.runOne = .next t) ∨
    (∃ op addr t, s.runOne = .fault (.unimplementedOpcode op addr t) ∧ t.cpu.run = .faulted op addr) := by
  unfold State.runOne
  split
  · exact .inl ⟨_, rfl⟩
  · rcases exec_cases s.fetchedInstr s.fetched with ⟨t, h⟩ | ⟨op, h⟩ <;> rw [h]
    · exact .inl ⟨_, rfl⟩
    · exact .inr ⟨op, _, _, rfl, rfl⟩

/-- Settles O15, by the run mode: each ends in a next state, in a fault already raised, or in an instruction. -/
theorem stepOutcomes : Obligations.StepOutcomes := by
  intro s hv
  rw [step_eq_stepByMode hv]
  unfold State.stepByMode
  split
  next op addr hrun => exact .inr ⟨op, addr, s, rfl, hrun⟩
  · split
    · exact runOne_outcomes _
    · exact .inl ⟨_, rfl⟩
  · split
    · exact .inl ⟨_, rfl⟩
    · exact runOne_outcomes _
  · exact runOne_outcomes s

/-- An illegal opcode is its one byte, and decodes to its own constructor (R165). -/
theorem illegalOpcode_decodes {op : Byte} (h : op ∈ illegalOpcodes) :
    busLength op = 1 ∧ (decodeOp op 0 0, op) ∈ illegalInstrs := by
  have hall : ∀ op ∈ illegalOpcodes, busLength op = 1 ∧ (decodeOp op 0 0, op) ∈ illegalInstrs := by decide
  exact hall op h

theorem State.fetchedInstr_of_busLength_one {s : State} (h : busLength s.opByte = 1) :
    s.fetchedInstr = decodeOp s.opByte 0 0 := by
  simp [State.fetchedInstr, h]

theorem State.fetched_of_busLength_one {s : State} (h : busLength s.opByte = 1) : s.fetched = s.fetchOpcode := by
  rw [State.fetched, h]
  rfl

/-- Settles O6: the opcode fetch is the whole fetch, and a faulted machine answers its fault before all else. -/
theorem illegalOpcode : Obligations.IllegalOpcode := by
  refine ⟨fun s hs hop => ?_, fun s op addr hrun => step_faulted hrun⟩
  obtain ⟨hlen, hmem⟩ := illegalOpcode_decodes hop
  have hcpu := s.fetchOpcode_cpu
  rw [step_executes hs, State.fetchedInstr_of_busLength_one hlen, exec_illegal _ hmem,
    State.fetched_of_busLength_one hlen, State.raiseUnimplemented, hcpu]
  exact ⟨_, rfl, by rw [State.mapCpu_cpu, hcpu], rfl⟩

end Sys2Proof.Machine
end

section
/-! PROOFS. 60_exceptions.md, taking an interrupt (R412 to R414), the exit from HALT (R415, R416) and the delay of EI (R411).
An M-cycle of the devices only ever adds requests, so what woke a halted machine is still pending after the exit delay. -/

namespace Sys2Proof.Machine

/-! ## Requests stay until they are taken -/

/-- `b'` has every request of `b` and the same IE. -/
structure Bus.KeepsRequests (b b' : Bus) : Prop where
  ie : b'.irq.ie = b.irq.ie
  iflag : ∀ k, b.irq.iflag.getLsbD k = true → b'.irq.iflag.getLsbD k = true

theorem Bus.KeepsRequests.of_irq {b b' : Bus} (h : b'.irq = b.irq) : b.KeepsRequests b' :=
  ⟨by rw [h], fun _ hk => by rwa [h]⟩

theorem Bus.KeepsRequests.trans {b₁ b₂ b₃ : Bus} (h : b₁.KeepsRequests b₂) (h' : b₂.KeepsRequests b₃) :
    b₁.KeepsRequests b₃ :=
  ⟨h'.ie.trans h.ie, fun k hk => h'.iflag k (h.iflag k hk)⟩

theorem Bus.getLsbD_request (b : Bus) (n k : Nat) :
    (b.request n).irq.iflag.getLsbD k = (b.irq.iflag.getLsbD k || (decide (k < 5) && decide (k = n))) := by
  simp only [Bus.request, BitVec.getLsbD_or, BitVec.getLsbD_shiftLeft, BitVec.getLsbD_one]
  grind

theorem Bus.KeepsRequests.of_request {b b' : Bus} (n : Nat) (h : b'.irq = (b.request n).irq) : b.KeepsRequests b' :=
  ⟨by rw [h]; rfl, fun k hk => by rw [h, Bus.getLsbD_request, hk, Bool.true_or]⟩

theorem Bus.serialShiftEdge_keepsRequests (b : Bus) : b.KeepsRequests b.serialShiftEdge := by
  unfold Bus.serialShiftEdge
  split
  · exact .of_irq rfl
  dsimp only
  split
  · exact .of_request 3 rfl
  · exact .of_irq rfl

theorem Bus.setDivider_keepsRequests (b : Bus) (d : Word) : b.KeepsRequests (b.setDivider d) := by
  unfold Bus.setDivider
  dsimp only
  split <;> split
  case isTrue.isTrue | isTrue.isFalse => refine .trans ?_ (Bus.serialShiftEdge_keepsRequests _); exact .of_irq rfl
  case isFalse.isTrue | isFalse.isFalse => exact .of_irq rfl

theorem Bus.timerReload_keepsRequests (b : Bus) : b.KeepsRequests b.timerReload := by
  unfold Bus.timerReload
  split
  · exact .of_irq rfl
  · exact .of_irq rfl
  · exact .of_request 2 rfl

theorem Bus.timerMCycle_keepsRequests (b : Bus) : b.KeepsRequests b.timerMCycle :=
  b.timerReload_keepsRequests.trans <| .trans (Bus.setDivider_keepsRequests _ _) <|
    .trans (Bus.setDivider_keepsRequests _ _) <| .trans (Bus.setDivider_keepsRequests _ _)
      (Bus.setDivider_keepsRequests _ _)

theorem Bus.vblankEntry_keepsRequests (b : Bus) : b.KeepsRequests b.vblankEntry := by
  unfold Bus.vblankEntry
  split
  · exact .of_request 0 rfl
  · exact .of_irq rfl

/-- Of the stages of a dot only VBlank's entry and the STAT line touch the requests (R511, R513). -/
theorem Bus.scanDot_irq (b : Bus) : b.scanDot.irq = b.irq := by
  unfold Bus.scanDot
  split <;> rfl

theorem Bus.lengthDot_irq (b : Bus) : b.lengthDot.irq = b.irq := by
  unfold Bus.lengthDot
  split <;> rfl

theorem Bus.renderDot_irq (b : Bus) : b.renderDot.irq = b.irq := by
  unfold Bus.renderDot
  split <;> rfl

theorem Bus.updateMode_irq (b : Bus) : b.updateMode.irq = b.irq := rfl

theorem Bus.updateStatLine_keepsRequests (b : Bus) : b.KeepsRequests b.updateStatLine := by
  unfold Bus.updateStatLine
  dsimp only
  split
  · exact .of_request 1 rfl
  · exact .of_irq rfl

theorem Bus.ppuDot_on (b : Bus) (h : b.ppu.lcdOn = true) :
    b.ppuDot =
      ({ b with ppu := b.ppu.nextDot } : Bus).vblankEntry.scanDot.lengthDot.renderDot.updateMode.updateStatLine :=
  if_pos h

theorem Bus.ppuDot_off (b : Bus) (h : b.ppu.lcdOn = false) : b.ppuDot = b := if_neg (by rw [h]; decide)

theorem Bus.ppuDot_keepsRequests (b : Bus) : b.KeepsRequests b.ppuDot := by
  cases h : b.ppu.lcdOn
  case false => exact .of_irq (by rw [b.ppuDot_off h])
  case true =>
    rw [b.ppuDot_on h]
    have hvblank : b.KeepsRequests ({ b with ppu := b.ppu.nextDot } : Bus).vblankEntry := by
      refine .trans ?_ (Bus.vblankEntry_keepsRequests _)
      exact .of_irq rfl
    refine .trans (hvblank.trans (.of_irq ?_)) (Bus.updateStatLine_keepsRequests _)
    rw [Bus.updateMode_irq, Bus.renderDot_irq, Bus.lengthDot_irq, Bus.scanDot_irq]

theorem Bus.joypadSample_keepsRequests (b : Bus) : b.KeepsRequests b.joypadSample := by
  unfold Bus.joypadSample
  dsimp only
  split
  · exact .of_irq rfl
  · exact .of_request 4 rfl

theorem Bus.advance_keepsRequests (b : Bus) (x : Option Word) : b.KeepsRequests (b.advance x) := by
  have hmem : b.KeepsRequests (b.oamBugStep x).dmaStep := .of_irq (by simp)
  have hppu (c : Bus) : c.KeepsRequests c.ppuMCycle :=
    c.ppuDot_keepsRequests.trans <| .trans (Bus.ppuDot_keepsRequests _) <|
      .trans (Bus.ppuDot_keepsRequests _) (Bus.ppuDot_keepsRequests _)
  exact .trans hmem <| .trans (Bus.timerMCycle_keepsRequests _) <| .trans (hppu _) <|
    .trans (Bus.joypadSample_keepsRequests _) (.of_irq rfl)

theorem Bus.KeepsRequests.pending_ne_zero {b b' : Bus} (h : b.KeepsRequests b') (hp : b.pending ≠ 0) :
    b'.pending ≠ 0 := by
  obtain ⟨k, hk, hie, hif⟩ := b.pending_ne_zero_iff.mp hp
  exact b'.pending_ne_zero_iff.mpr ⟨k, hk, h.ie ▸ hie, h.iflag k hif⟩

/-! ## Leaving HALT -/

/-- A property that counts the steps of an iteration, up to a last one. -/
theorem iterate_counted {α : Type} {f : α → α} {P : Nat → α → Prop} {last : Nat}
    (hstep : ∀ k x, k < last → P k x → P (k + 1) (f x)) {x : α} (h : P 0 x) {n : Nat} (hn : n ≤ last) :
    P n (f^[n] x) := by
  induction n with
  | zero => exact h
  | succ n ih =>
    rw [Function.iterate_succ_apply']
    exact hstep n _ hn (ih (Nat.le_of_succ_le hn))

theorem Bus.idle_eq_iterate (n : Nat) (b : Bus) : Bus.idle n b = (fun x => x.advance none)^[n] b := by
  induction n generalizing b with
  | zero => rfl
  | succ n ih => exact ih (b.advance none)

/-- A property that every M-cycle without an access keeps is kept by `n` of them. -/
theorem Bus.idle_induction {P : Bus → Prop} (hs : ∀ b, P b → P (b.advance none)) (n : Nat) {b : Bus} (h : P b) :
    P (Bus.idle n b) := by
  rw [Bus.idle_eq_iterate]
  exact iterate_counted (P := fun _ => P) (fun _ x _ => hs x) h (Nat.le_refl n)

theorem internals_eq_idle (n : Nat) (s : State) :
    State.internals n s = { cpu := s.cpu, bus := Bus.idle n s.bus } := by
  induction n generalizing s with
  | zero => rfl
  | succ n ih => exact ih s.internal

theorem step_halted {s : State} (h : s.cpu.run = .halted) (hv : s.Valid) :
    step s = if s.bus.pending = 0 then .next s.internal else (State.internals s.haltExitDelay s.resume).runOne := by
  rw [step_eq_stepByMode hv, State.stepByMode, h]

/-- Settles O8: the exit M-cycles keep R407 and the request, and the machine then runs. -/
theorem haltedStep : Obligations.HaltedStep := by
  intro s hrun hv
  have hstep := step_halted hrun hv
  refine ⟨fun hp => hstep.trans (if_pos hp), ?_⟩
  intro hp n u
  obtain ⟨hcpu, hbus⟩ := (State.valid_iff s).mp hv
  have hu : u.Valid :=
    (State.valid_iff u).mpr ⟨hcpu, Bus.idle_induction (fun b h => b.advance_valid none h) n hbus⟩
  have hpu : u.bus.pending ≠ 0 :=
    Bus.idle_induction (P := fun b => b.pending ≠ 0)
      (fun b h => (b.advance_keepsRequests none).pending_ne_zero h) n hp
  refine ⟨hu, hpu, ?_⟩
  rw [hstep, if_neg hp, internals_eq_idle, step_running rfl hu]
  rfl

/-! ## Taking an interrupt -/

/-- The vector is that of the lowest request (R413). -/
theorem lowestSet_eq_some {p : BitVec 5} {k : Nat} (hk : k < 5) (hp : p.getLsbD k = true)
    (hlow : ∀ j, j < k → p.getLsbD j = false) : lowestSet p = some k := by
  unfold lowestSet
  interval_cases k <;> simp only [hp, hlow, reduceIte, Nat.reduceLT, Bool.false_eq_true]

theorem Bus.getLsbD_acknowledge (b : Bus) (k : Nat) {j : Nat} (hj : j < 5) :
    (b.acknowledge k).irq.iflag.getLsbD j = (b.irq.iflag.getLsbD j && decide (j ≠ k)) := by
  simp only [Bus.acknowledge, BitVec.getLsbD_and, BitVec.getLsbD_not, BitVec.getLsbD_shiftLeft, BitVec.getLsbD_one]
  grind

theorem vector_toNat {k : Nat} (hk : k < 5) : (vector k).toNat = 0x40 + 8 * k := by
  unfold vector
  rw [BitVec.toNat_ofNat]
  omega

theorem takeVector_none {p : BitVec 5} (s : State) (hp : p = 0) : s.takeVector p = s.jump 0 := by
  rw [hp]
  rfl

theorem takeVector_some {p : BitVec 5} {k : Nat} (s : State) (hp : lowestSet p = some k) :
    s.takeVector p = ({ s with bus := s.bus.acknowledge k } : State).jump (vector k) := by
  rw [State.takeVector, hp]

/-- The state of a dispatch after both pushes, before the vector is taken. -/
def State.dispatchPushed (s : State) : State := s.dispatchHigh.pushByte (lowByte s.cpu.dispatchReturn)

theorem dispatch_eq (s : State) :
    s.dispatch = (s.dispatchPushed.takeVector s.dispatchHigh.bus.pending).internal := rfl

theorem dispatchPushed_cpu (s : State) :
    s.dispatchPushed.cpu = { s.cpu with ime := false, eiDelay := 0, haltBug := false, sp := s.cpu.sp - 2 } := by
  rw [← sub_one_sub_one]
  rfl

theorem dispatchPushed_bus (s : State) :
    s.dispatchPushed.bus =
      (s.dispatchHigh.bus.cpuWrite (s.cpu.sp - 2) (lowByte s.cpu.dispatchReturn)).advance (some (s.cpu.sp - 2)) := by
  rw [← sub_one_sub_one]
  rfl

theorem takeVector_cycles (p : BitVec 5) (s : State) : (s.takeVector p).bus.cycles = s.bus.cycles := by
  unfold State.takeVector
  split <;> rfl

theorem dispatch_cpu (s : State) :
    s.dispatch.cpu = { s.cpu with
      ime := false, eiDelay := 0, haltBug := false, sp := s.cpu.sp - 2, pc := s.dispatch.cpu.pc } := by
  rw [dispatch_eq, State.internal_cpu, takeVector_cpu, dispatchPushed_cpu]

/-- Two internal M-cycles, the two pushes, and the jump's (R412). -/
theorem dispatch_cycles (s : State) : s.dispatch.bus.cycles = s.bus.cycles + 5 := by
  have hhigh : s.dispatchHigh.bus.cycles = s.bus.cycles + 3 := by simp [State.dispatchHigh]
  rw [dispatch_eq, State.internal_bus, Bus.advance_cycles, takeVector_cycles, dispatchPushed_bus, Bus.advance_cycles,
    Bus.cpuWrite_cycles, hhigh]

/-- Settles O9: the vector is taken from what is pending after the high byte's push. -/
theorem interruptDispatch : Obligations.InterruptDispatch := by
  intro s hrun hv hime hp ret b2 b3 b4
  have hb3 : s.dispatchHigh.bus = b3 := rfl
  have hb4 : s.dispatchPushed.bus = b4 := dispatchPushed_bus s
  refine ⟨s.dispatch, ?_, dispatch_cpu s, dispatch_cycles s, fun hnone => ?_, fun k hk hset hlow => ?_⟩
  · rw [step_running hrun hv, State.runOne, if_pos ⟨hime, hp⟩]
  · rw [dispatch_eq, hb3, takeVector_none _ hnone, ← hb4]
    exact ⟨rfl, rfl⟩
  · rw [dispatch_eq, hb3, takeVector_some _ (lowestSet_eq_some hk hset hlow), ← hb4]
    exact ⟨vector_toNat hk, _, fun j hj => Bus.getLsbD_acknowledge _ k hj, rfl⟩

/-! ## The delay of EI -/

theorem State.endOfInstruction_cpu (s : State) :
    s.endOfInstruction.cpu =
      if s.cpu.eiDelay = 2 then { s.cpu with eiDelay := 1 }
      else if s.cpu.eiDelay = 1 then { s.cpu with eiDelay := 0, ime := true } else s.cpu := rfl

theorem State.fetched_ime (s : State) : s.fetched.cpu.ime = s.cpu.ime := by rw [State.fetched_cpu]

theorem State.fetched_eiDelay (s : State) : s.fetched.cpu.eiDelay = s.cpu.eiDelay := by rw [State.fetched_cpu]

theorem State.fetched_run (s : State) : s.fetched.cpu.run = s.cpu.run := by rw [State.fetched_cpu]

/-- While an EI is one instruction from taking effect, any instruction but DI ends with IME 1 (R411): another EI
does nothing, and RETI sets it by itself (R339). -/
theorem exec_end_of_eiDelay_one {i : Instr} {s t : State} (h : exec i s = .next t)
    (hd : s.cpu.eiDelay = 1) (hi : i ≠ .di) :
    t.endOfInstruction.cpu.ime = true ∧ t.endOfInstruction.cpu.eiDelay = 0 := by
  by_cases hreti : i = .reti
  · subst hreti
    cases h
    exact ⟨rfl, rfl⟩
  have hkept : t.cpu.eiDelay = 1 := by
    by_cases hei : i = .ei
    · subst hei
      cases h.symm.trans (execEi_skip (.inr (by rw [hd]; decide)))
      exact hd
    · exact (exec_ime h hei hi hreti).2.trans hd
  rw [State.endOfInstruction_cpu, hkept]
  exact ⟨rfl, rfl⟩

theorem exec_end_of_di {s t : State} (h : exec .di s = .next t) :
    t.endOfInstruction.cpu.ime = false ∧ t.endOfInstruction.cpu.eiDelay = 0 := by
  cases h
  exact ⟨rfl, rfl⟩

/-- Settles O10: EI's own end counts its delay from 2 to 1, and the end of the next instruction sets IME. -/
theorem eiLatency : Obligations.EiLatency := by
  constructor
  · intro s hs hime hd hop
    have hei : s.fetchedInstr = .ei := by
      rw [State.fetchedInstr_of_busLength_one (by rw [hop]; decide), hop]
      rfl
    have hx : exec .ei s.fetched = .next { s.fetched with cpu := { s.fetched.cpu with eiDelay := 2 } } :=
      execEi_start (s.fetched_ime.trans hime) (s.fetched_eiDelay.trans hd)
    rw [step_executes hs, hei, hx]
    exact ⟨_, rfl, s.fetched_ime.trans hime, rfl, s.fetched_run.trans hs.1⟩
  · intro s hrun hv hd
    have hime : s.cpu.ime = false := by
      have h := ((State.valid_iff s).mp hv).1
      rw [hd] at h
      simpa using h
    refine ⟨hime, fun t ht => ?_⟩
    rw [step_running hrun hv] at ht
    rcases runOne_cases ht with ⟨hset, -, -⟩ | ⟨-, u, hu, rfl⟩
    · rw [hime] at hset
      cases hset
    · exact ⟨⟨u, hu, rfl⟩,
        exec_end_of_eiDelay_one hu (s.fetched_eiDelay.trans hd),
        fun hdi => exec_end_of_di (hdi ▸ hu)⟩

end Sys2Proof.Machine
end

section
/-! PROOFS. 60_exceptions.md, the invariant of the machine (R407, R502, R505, R513, R524, R525; 10_state.md R32). On the bus
it is kept by every M-cycle and every Cpu write, and so by every step; on the Cpu it is F's low bits and that an EI
waits only while IME is 0. -/

namespace Sys2Proof.Machine

/-! ## The PPU's part -/

/-- What the invariant says of the PPU but for its STAT line. -/
structure Bus.LineInv (b : Bus) : Prop where
  frame : b.ppu.fb.wf = true
  mode : b.ModeSound
  line : b.LineSound
  window : b.WindowSound

/-- What the invariant says of the PPU. -/
structure Bus.PpuInv (b : Bus) : Prop extends b.LineInv where
  statLine : b.StatLineSound

/-- It depends on the PPU and the parameters alone. -/
theorem Bus.PpuInv.of_parts {b b' : Bus} (h : b.PpuInv) (hu : b'.ppu = b.ppu) (hp : b'.params = b.params) :
    b'.PpuInv := by
  obtain ⟨⟨hframe, hmode, hline, hwindow⟩, hstat⟩ := h
  refine ⟨⟨?_, ?_, ?_, ?_⟩, ?_⟩
  · rwa [hu]
  · rwa [Bus.ModeSound, hu, hp]
  · rwa [Bus.LineSound, hu]
  · rwa [Bus.WindowSound, hu]
  · rwa [Bus.StatLineSound, hu, hp]

/-- The test of the STAT line stores it as it is (R513), and nothing else of the PPU. -/
theorem Bus.LineInv.updateStatLine {b : Bus} (h : b.LineInv) : b.updateStatLine.PpuInv := by
  have hu := b.updateStatLine_ppu
  have hp := b.updateStatLine_params
  refine ⟨⟨?_, ?_, ?_, ?_⟩, ?_⟩
  · rw [hu]; exact h.frame
  · rw [Bus.ModeSound, hu, hp]; exact h.mode
  · rw [Bus.LineSound, hu]; exact h.line
  · rw [Bus.WindowSound, hu]; exact h.window
  · rw [Bus.StatLineSound, hu, hp]; rfl

theorem drawLine_wf (m : Memory) (p : Ppu) (y n : Nat) (fb : Frame) (h : fb.wf = true) :
    (drawLine m p y n fb).wf = true := by
  induction n with
  | zero => exact h
  | succ n ih => exact Frame.write_wf _ _ _ ih

theorem Ppu.nextDot_line (p : Ppu) : p.nextDot.fb = p.fb ∧ p.nextDot.l3 = p.l3 ∧ p.nextDot.sel = p.sel := by
  unfold Ppu.nextDot
  split
  · split <;> exact ⟨rfl, rfl, rfl⟩
  · exact ⟨rfl, rfl, rfl⟩

theorem Bus.scanDot_sel (b : Bus) (h : b.ppu.sel.length ≤ 10) : b.scanDot.ppu.sel.length ≤ 10 := by
  unfold Bus.scanDot
  split
  · exact b.oamScanEntry_sel _ h
  · exact h

theorem Bus.renderDot_frame (b : Bus) (h : b.ppu.fb.wf = true) : b.renderDot.ppu.fb.wf = true := by
  unfold Bus.renderDot Bus.renderLine
  split
  · dsimp only
    exact drawLine_wf _ _ _ _ _ h
  · exact h

/-- A dot ends with the mode of its place and the STAT line of that mode (R502, R513). -/
theorem Bus.ppuDot_mode (b : Bus) (hon : b.ppu.lcdOn = true) :
    b.ppuDot.ppu.mode = b.ppuDot.ppu.modeAt b.ppuDot.params.lcdEnableSkipsMode2 ∧ b.ppuDot.StatLineSound := by
  rw [b.ppuDot_on hon]
  generalize Bus.renderDot _ = x
  rw [Bus.StatLineSound, Bus.updateStatLine_ppu, Bus.updateStatLine_params]
  exact ⟨rfl, rfl⟩

/-- A dot leaves the frame in its form and at most ten selected sprites (R506, R525). -/
theorem Bus.ppuDot_line (b : Bus) (hon : b.ppu.lcdOn = true) (hfb : b.ppu.fb.wf = true) (hsel : b.ppu.sel.length ≤ 10) :
    b.ppuDot.ppu.fb.wf = true ∧ b.ppuDot.ppu.sel.length ≤ 10 := by
  obtain ⟨efb, -, esel⟩ := b.ppu.nextDot_line
  rw [b.ppuDot_on hon]
  generalize hx : ({ b with ppu := b.ppu.nextDot } : Bus).vblankEntry = x
  have hxu : x.ppu = b.ppu.nextDot := by rw [← hx, Bus.vblankEntry_ppu]
  obtain ⟨n, hl⟩ := x.scanDot.lengthDot_ppu
  obtain ⟨l, hs⟩ := x.scanDot_ppu
  obtain ⟨f, w, hr⟩ := x.scanDot.lengthDot.renderDot_ppu
  have hf : x.scanDot.lengthDot.renderDot.ppu.fb.wf = true :=
    Bus.renderDot_frame _ (by rw [hl, hs, hxu]; dsimp only; rwa [efb])
  have hn : x.scanDot.lengthDot.renderDot.ppu.sel.length ≤ 10 := by
    rw [hr, hl]
    exact x.scanDot_sel (by rwa [hxu, esel])
  generalize x.scanDot.lengthDot.renderDot = y at hf hn
  rw [Bus.updateStatLine_ppu]
  exact ⟨hf, hn⟩

theorem Bus.ppuDot_ppuInv (b : Bus) (hv : b.Valid) (h : b.PpuInv) : b.ppuDot.PpuInv := by
  cases hon : b.ppu.lcdOn with
  | false => rwa [b.ppuDot_off hon]
  | true =>
    obtain ⟨⟨hframe, -, ⟨hlo, hhi, hsel⟩, hwindow⟩, -⟩ := h
    obtain ⟨-, ⟨hdot, hly, -⟩, -⟩ := hv
    obtain ⟨hfb, hsel'⟩ := b.ppuDot_line hon hframe hsel
    obtain ⟨hmode, hstat⟩ := b.ppuDot_mode hon
    have hl3 : 172 ≤ b.ppuDot.ppu.l3 ∧ b.ppuDot.ppu.l3 ≤ 289 := by
      rcases b.ppuDot_l3 hon with hkept | ⟨-, hnew⟩
      · rw [hkept]; exact ⟨hlo, hhi⟩
      · exact hnew
    exact ⟨⟨hfb, fun _ => hmode, ⟨hl3.1, hl3.2, hsel'⟩, b.ppuDot_window ⟨hdot, hly⟩ ⟨hlo, hhi⟩ hwindow⟩, hstat⟩

/-- An LCDC write leaves the PPU off at line 0 dot 0, starts line 0, or keeps the line (R509, R510). -/
theorem Bus.writeLcdc_ppuInv (b : Bus) (v : Byte) (h : b.PpuInv) : (b.writeLcdc v).PpuInv := by
  obtain ⟨⟨hframe, hmode, hline, hwindow⟩, -⟩ := h
  unfold Bus.writeLcdc
  dsimp only
  split
  case isTrue hoff =>
    have hv : ({ b.ppu with lcdc := v } : Ppu).lcdOn = false := by
      simp only [Bool.and_eq_true, Bool.not_eq_true'] at hoff
      exact hoff.2
    have hnot : ¬ ({ b.ppu with lcdc := v } : Ppu).lcdOn = true := by rw [hv]; decide
    refine ⟨⟨hframe, fun hon => absurd hon hnot, hline, hwindow.1, fun hon => absurd hon hnot⟩, ?_⟩
    exact (congrArg (· && _) hv).symm
  case isFalse hstay =>
  split
  case isTrue =>
    refine Bus.LineInv.updateStatLine ⟨hframe, fun _ => rfl, ⟨hline.1, hline.2.1, ?_⟩, Nat.zero_le _, fun _ => Nat.zero_le _⟩
    exact Bus.oamScanEntry_sel _ 0 (Nat.zero_le _)
  case isFalse hkeep =>
    have hon (hv : ({ b.ppu with lcdc := v } : Ppu).lcdOn = true) : b.ppu.lcdOn = true := by
      by_contra hb
      exact hkeep (by simp [hb, hv])
    exact Bus.LineInv.updateStatLine ⟨hframe, fun hv => hmode (hon hv), hline, hwindow.1, fun hv => hwindow.2 (hon hv)⟩

/-! ## The bus -/

/-- What the invariant says of the bus. -/
structure Bus.Inv (b : Bus) : Prop where
  valid : b.Valid
  mem : b.mem.wf = true
  ppu : b.PpuInv

theorem Bus.Inv.ppuDot {b : Bus} (h : b.Inv) : b.ppuDot.Inv :=
  ⟨b.ppuDot_valid h.valid, by rw [Bus.ppuDot_mem]; exact h.mem, b.ppuDot_ppuInv h.valid h.ppu⟩

theorem Bus.Inv.advance {b : Bus} (x : Option Word) (h : b.Inv) : (b.advance x).Inv := by
  have hbefore : (b.oamBugStep x).dmaStep.timerMCycle.Inv := by
    refine ⟨Bus.timerMCycle_valid _ (Bus.dmaStep_valid _ (h.valid.of_parts ?_ ?_ ?_ ?_)), ?_, h.ppu.of_parts ?_ ?_⟩
    case refine_5 => rw [Bus.timerMCycle_mem]; exact Bus.dmaStep_wf _ (Bus.oamBugStep_wf b x h.mem)
    all_goals simp
  exact ⟨b.advance_valid x h.valid, b.advance_wf x h.mem,
    hbefore.ppuDot.ppuDot.ppuDot.ppuDot.ppu.of_parts (by simp [Bus.advance, Bus.ppuMCycle]) (by simp)⟩

theorem Bus.setDivider_ppuInv (b : Bus) (d : Word) (h : b.PpuInv) : (b.setDivider d).PpuInv :=
  h.of_parts (b.setDivider_ppu d) (b.setDivider_params d)

/-- Of the registers LCDC, STAT and LYC alone act on the line; the others are read when it is drawn. -/
theorem Bus.ioWrite_ppuInv (b : Bus) (a : Word) (v : Byte) (h : b.PpuInv) : (b.ioWrite a v).PpuInv := by
  have ⟨⟨hframe, hmode, hline, hwindow⟩, hstat⟩ := h
  unfold Bus.ioWrite
  split
  · exact h.of_parts rfl rfl
  split
  case h_4 => exact b.setDivider_ppuInv 0 h
  case h_9 => exact b.writeLcdc_ppuInv v h
  case h_10 | h_13 => exact Bus.LineInv.updateStatLine ⟨hframe, hmode, hline, hwindow⟩
  case h_11 | h_12 | h_15 | h_16 | h_17 | h_18 | h_19 => exact ⟨⟨hframe, hmode, hline, hwindow⟩, hstat⟩
  case h_20 => split <;> exact h.of_parts rfl rfl
  all_goals exact h.of_parts rfl rfl

theorem Bus.sideWrite_ppuInv (b : Bus) (a : Word) (v : Byte) (h : b.PpuInv) : (b.sideWrite a v).PpuInv := by
  unfold Bus.sideWrite
  split
  · exact h
  split
  · unfold Bus.controlWrite
    dsimp only
    split <;> exact h.of_parts rfl rfl
  · unfold Bus.ramControlWrite
    split <;> exact h.of_parts rfl rfl
  · exact b.ioWrite_ppuInv a v h
  all_goals exact h.of_parts rfl rfl

theorem Bus.Inv.cpuWrite {b : Bus} (a : Word) (v : Byte) (h : b.Inv) : (b.cpuWrite a v).Inv :=
  ⟨b.cpuWrite_valid a v h.valid, b.cpuWrite_wf a v h.mem,
    Bus.cpuWrite_cases b a v Bus.PpuInv (fun _ _ => h.ppu.of_parts rfl rfl) (b.sideWrite_ppuInv a v h.ppu)⟩

theorem Bus.Inv.setDivider {b : Bus} (d : Word) (h : b.Inv) : (b.setDivider d).Inv :=
  ⟨b.setDivider_valid d h.valid, by rw [Bus.setDivider_mem]; exact h.mem, b.setDivider_ppuInv d h.ppu⟩

theorem Bus.Inv.acknowledge {b : Bus} (k : Nat) (h : b.Inv) : (b.acknowledge k).Inv :=
  ⟨b.acknowledge_valid k h.valid, h.mem, h.ppu.of_parts rfl rfl⟩

/-! ## The Cpu -/

/-- What the invariant says of the Cpu: an EI waits only while IME is 0 (R407), and F's low bits are 0 (R32). -/
structure Cpu.Inv (c : Cpu) : Prop where
  ei : ¬ (c.eiDelay ≠ 0 ∧ c.ime = true)
  flags : c.FlagsSound

theorem Cpu.Inv.of_parts {c c' : Cpu} (h : c.Inv) (hd : c'.eiDelay = c.eiDelay) (hi : c'.ime = c.ime) (hf : c'.f = c.f) :
    c'.Inv :=
  ⟨by rw [hd, hi]; exact h.ei, by rw [Cpu.FlagsSound, hf]; exact h.flags⟩

/-- EI starts its delay only where IME is 0; DI and RETI end it (R339, R363, R364). -/
theorem exec_cpuInv {i : Instr} {s t : State} (hx : exec i s = .next t) (h : s.cpu.Inv) : t.cpu.Inv := by
  refine ⟨?_, exec_flagsSound hx h.flags⟩
  by_cases hei : i = .ei
  · subst hei
    by_cases hstart : s.cpu.ime = false ∧ s.cpu.eiDelay = 0
    · cases hx.symm.trans (execEi_start hstart.1 hstart.2)
      exact fun hbad => Bool.false_ne_true (hstart.1.symm.trans hbad.2)
    · rw [not_and_or, Bool.not_eq_false] at hstart
      cases hx.symm.trans (execEi_skip hstart)
      exact h.ei
  by_cases hdi : i = .di
  · subst hdi
    cases hx
    exact fun hbad => hbad.1 rfl
  by_cases hreti : i = .reti
  · subst hreti
    cases hx
    exact fun hbad => hbad.1 rfl
  obtain ⟨hime, hdelay⟩ := exec_ime hx hei hdi hreti
  rw [hime, hdelay]
  exact h.ei

/-- The end of an instruction counts EI's delay down, and sets IME as it reaches 0 (R411). -/
theorem endOfInstruction_cpuInv {s : State} (h : s.cpu.Inv) : s.endOfInstruction.cpu.Inv := by
  rw [State.endOfInstruction_cpu]
  split
  case isTrue htwo =>
    exact ⟨fun hbad => h.ei ⟨by rw [htwo]; decide, hbad.2⟩, h.flags⟩
  split
  · exact ⟨fun hbad => hbad.1 rfl, h.flags⟩
  · exact h

theorem dispatch_cpuInv {s : State} (h : s.cpu.Inv) : s.dispatch.cpu.Inv := by
  rw [dispatch_cpu]
  exact ⟨fun hbad => hbad.1 rfl, h.flags⟩

theorem step_cpuInv {s t : State} (hstep : step s = .next t) (h : s.cpu.Inv) : t.cpu.Inv := by
  obtain ⟨-, ⟨-, -, rfl⟩ | ⟨-, -, rfl⟩ | ⟨n, hrun⟩⟩ := step_cases hstep
  · exact h
  · exact h
  have hu : (State.internals n s.resume).cpu.Inv := by
    rw [State.internals_cpu]
    exact h.of_parts rfl rfl rfl
  generalize State.internals n s.resume = u at hrun hu
  rcases runOne_cases hrun with ⟨-, -, rfl⟩ | ⟨-, w, hx, rfl⟩
  · exact dispatch_cpuInv hu
  · exact endOfInstruction_cpuInv (exec_cpuInv hx (hu.of_parts u.fetched_eiDelay u.fetched_ime (by rw [State.fetched_cpu])))

/-! ## The machine -/

theorem State.inv_iff (s : State) : s.Inv ↔ s.cpu.Inv ∧ s.bus.Inv := by
  unfold State.Inv
  rw [State.valid_iff]
  constructor
  · rintro ⟨⟨hei, hv⟩, hf, ⟨hmem, hfb⟩, hmode, hstat, hline, hwindow⟩
    exact ⟨⟨hei, hf⟩, hv, hmem, ⟨hfb, hmode, hline, hwindow⟩, hstat⟩
  · rintro ⟨⟨hei, hf⟩, hv, hmem, ⟨hfb, hmode, hline, hwindow⟩, hstat⟩
    exact ⟨⟨hei, hv⟩, hf, ⟨hmem, hfb⟩, hmode, hstat, hline, hwindow⟩

/-- Settles O11: the M-cycles, the Cpu writes and the divider reset of a step keep the bus part, and the step's
instruction or dispatch keeps the Cpu part. -/
theorem stepKeepsInv : Obligations.StepKeepsInv := by
  intro s t hinv hstep
  obtain ⟨hcpu, hbus⟩ := s.inv_iff.mp hinv
  refine t.inv_iff.mpr ⟨step_cpuInv hstep hcpu, ?_⟩
  exact step_bus Bus.Inv (fun _ x h => h.advance x) (fun _ a v h => h.cpuWrite a v) (fun _ h => h.setDivider 0)
    (fun _ k h => h.acknowledge k) s t hstep hbus

end Sys2Proof.Machine
end

section
/-! PROOFS. 60_exceptions.md, the timer (R440 to R446), the serial unit (R464, R465) and OAM DMA (R480 to R484). Each is
counted forward from the state it starts in: T-cycles until the divider's falling edge, shifts until the last bit, bytes
until the transfer ends. -/

namespace Sys2Proof.Machine

/-! ## The reload window -/

theorem Bus.cpuWrite_tima (b : Bus) (v : Byte) : b.cpuWrite 0xFF05 v = { b with timer := b.timer.writeTima v } :=
  b.cpuWrite_io v (by decide) rfl

theorem Bus.cpuWrite_tma (b : Bus) (v : Byte) : b.cpuWrite 0xFF06 v = { b with timer := b.timer.writeTma v } :=
  b.cpuWrite_io v (by decide) rfl

theorem Bus.timerReload_running (b : Bus) (h : b.timer.tstate = .running) : b.timerReload = b := by
  rw [Bus.timerReload, h]

theorem Bus.timerReload_reloaded (b : Bus) (h : b.timer.tstate = .reloaded) :
    b.timerReload = { b with timer := { b.timer with tstate := .running } } := by
  rw [Bus.timerReload, h]

theorem Bus.timerReload_overflowed (b : Bus) (h : b.timer.tstate = .overflowed) :
    b.timerReload =
      ({ b with timer := { b.timer with tima := b.timer.tma, tstate := .reloaded } } : Bus).request 2 := by
  rw [Bus.timerReload, h]

/-- A TIMA write by the timer state (R444). -/
theorem Timer.writeTima_running {t : Timer} (v : Byte) (h : t.tstate = .running) :
    t.writeTima v = { t with tima := v } := by
  rw [Timer.writeTima, h]

theorem Timer.writeTima_overflowed {t : Timer} (v : Byte) (h : t.tstate = .overflowed) :
    t.writeTima v = { t with tima := v, tstate := .running } := by
  rw [Timer.writeTima, h]

theorem Timer.writeTima_reloaded {t : Timer} (v : Byte) (h : t.tstate = .reloaded) : t.writeTima v = t := by
  rw [Timer.writeTima, h]

/-- A TMA write reaches TIMA only in the M-cycle after the reload (R445). -/
theorem Timer.writeTma_reloaded {t : Timer} (v : Byte) (h : t.tstate = .reloaded) :
    t.writeTma v = { t with tma := v, tima := v } := by
  rw [Timer.writeTma, h]

theorem Timer.writeTma_of_ne {t : Timer} (v : Byte) (h : t.tstate ≠ .reloaded) :
    t.writeTma v = { t with tma := v } := by
  unfold Timer.writeTma
  split
  · contradiction
  · rfl

/-- Settles O52: in each of the three timer states the two writes and the reload are one update each. -/
theorem timerWindow : Obligations.TimerWindow := by
  intro b v
  rw [b.cpuWrite_tima, b.cpuWrite_tma]
  refine ⟨fun h => ?_, fun h => ?_, fun h => ?_⟩
  · rw [b.timerReload_overflowed h, Timer.writeTima_overflowed v h, Timer.writeTma_of_ne v (by rw [h]; decide)]
    refine ⟨rfl, ?_, ⟨rfl, Bus.timerReload_running _ rfl⟩, rfl, ?_⟩
    · rw [Bus.getLsbD_request]
      simp
    · rw [Bus.timerReload_overflowed _ (by exact h)]
      rfl
  · rw [b.timerReload_reloaded h, Timer.writeTima_reloaded v h, Timer.writeTma_reloaded v h]
    exact ⟨rfl, rfl, rfl⟩
  · rw [b.timerReload_running h, Timer.writeTima_running v h, Timer.writeTma_of_ne v (by rw [h]; decide)]
    exact ⟨rfl, rfl, rfl⟩

/-! ## The rate with the fastest clock -/

/-- One T-cycle of the timer alone (R442). -/
def Timer.tick (t : Timer) : Timer := Timer.countEdge t { t with div16 := t.div16 + 1 }

theorem Bus.timerTCycle_timer (b : Bus) : b.timerTCycle.timer = b.timer.tick := b.setDivider_timer _

theorem Timer.tick_div16 (t : Timer) : t.tick.div16 = t.div16 + 1 := Timer.countEdge_div16 _ _

theorem Bus.timerReload_div16 (b : Bus) : b.timerReload.timer.div16 = b.timer.div16 := by
  unfold Bus.timerReload
  split <;> rfl

theorem Timer.increment_max {t : Timer} (h : t.tima = 0xFF) :
    t.increment = { t with tima := 0x00, tstate := .overflowed } := if_pos h

theorem Timer.increment_of_ne {t : Timer} (h : t.tima ≠ 0xFF) : t.increment = { t with tima := t.tima + 1 } := if_neg h

/-- With TAC = 0x05 the timer looks at bit 3 of the divider, which falls once in 16 T-cycles (R441). -/
theorem getLsbD_three_falls (d : Word) :
    (d.getLsbD 3 && !(d + 1).getLsbD 3) = decide (d.toNat % 16 = 15) := by
  simp only [BitVec.getLsbD, Nat.testBit_eq_decide_div_mod_eq, toNat_add_one]
  rw [Bool.eq_iff_iff]
  simp only [Bool.and_eq_true, Bool.not_eq_true', decide_eq_true_eq, decide_eq_false_iff_not]
  omega

theorem Timer.tick_fast (t : Timer) (h : t.tac = 0b101) :
    t.tick =
      if t.div16.toNat % 16 = 15 then ({ t with div16 := t.div16 + 1 } : Timer).increment
      else { t with div16 := t.div16 + 1 } := by
  have hedge := getLsbD_three_falls t.div16
  have hbit : t.signal = t.div16.getLsbD 3 := by rw [Timer.signal, h]; rfl
  have hbit' : ({ t with div16 := t.div16 + 1 } : Timer).signal = (t.div16 + 1).getLsbD 3 := by
    rw [Timer.signal]
    dsimp only
    rw [h]
    rfl
  rw [Timer.tick, Timer.countEdge, hbit, hbit', hedge]
  simp only [decide_eq_true_eq]

/-- `t` is `t₀` after `n` T-cycles of the fastest clock: TIMA has counted once exactly when the divider has passed a
multiple of 16, and it stays at that unless an overflow reloads it with another value. -/
structure Timer.Counted (t₀ : Timer) (n : Nat) (t : Timer) : Prop where
  tac : t.tac = 0b101
  tma : t.tma = t₀.tma
  div16 : t.div16.toNat = (t₀.div16.toNat + n) % 65536
  before : t₀.div16.toNat % 16 + n < 16 → t.tima = t₀.tima ∧ t.tstate = .running
  after : 16 ≤ t₀.div16.toNat % 16 + n →
    t.tima = t₀.tima + 1 ∧ (t.tstate = .running ∨ t₀.tima = 0xFF ∧ t₀.tma = 0x00)

theorem Timer.Counted.tick {t₀ t : Timer} {n : Nat} (h : t₀.Counted n t) (hn : n < 16)
    (hmax : t₀.tima = 0xFF → t₀.tma = 0x00) : t₀.Counted (n + 1) t.tick := by
  obtain ⟨htac, htma, hdiv, hbefore, hafter⟩ := h
  have hdiv' : t.tick.div16.toNat = (t₀.div16.toNat + (n + 1)) % 65536 := by
    rw [Timer.tick_div16, toNat_add_one, hdiv]
    omega
  rw [t.tick_fast htac] at hdiv' ⊢
  by_cases hedge : t.div16.toNat % 16 = 15
  · obtain ⟨htima, hrun⟩ := hbefore (by omega)
    rw [if_pos hedge] at hdiv' ⊢
    by_cases hover : t.tima = 0xFF
    · rw [Timer.increment_max (by exact hover)] at hdiv' ⊢
      have hover₀ : t₀.tima = 0xFF := htima.symm.trans hover
      refine ⟨htac, htma, hdiv', fun _ => by omega, fun _ => ⟨?_, .inr ⟨hover₀, hmax hover₀⟩⟩⟩
      rw [hover₀]
      rfl
    · rw [Timer.increment_of_ne (by exact hover)] at hdiv' ⊢
      exact ⟨htac, htma, hdiv', fun _ => by omega, fun _ => ⟨congrArg (· + 1) htima, .inl hrun⟩⟩
  · rw [if_neg hedge] at hdiv' ⊢
    exact ⟨htac, htma, hdiv', fun hlt => hbefore (by omega), fun hle => hafter (by omega)⟩

/-- A reload within the window loads TMA, which is then what TIMA has already. -/
theorem Timer.Counted.reload {t₀ : Timer} {b : Bus} {n : Nat} (h : t₀.Counted n b.timer) :
    t₀.Counted n b.timerReload.timer := by
  have ⟨htac, htma, hdiv, hbefore, hafter⟩ := h
  cases hstate : b.timer.tstate with
  | running => rwa [b.timerReload_running hstate]
  | reloaded =>
    rw [b.timerReload_reloaded hstate]
    exact ⟨htac, htma, hdiv, fun hlt => ⟨(hbefore hlt).1, rfl⟩, fun hle => ⟨(hafter hle).1, .inl rfl⟩⟩
  | overflowed =>
    rw [b.timerReload_overflowed hstate]
    refine ⟨htac, htma, hdiv, fun hlt => ?_, fun hle => ?_⟩
    · cases hstate.symm.trans (hbefore hlt).2
    · obtain ⟨-, hrun | ⟨hmax, hzero⟩⟩ := hafter hle
      · cases hstate.symm.trans hrun
      · refine ⟨?_, .inr ⟨hmax, hzero⟩⟩
        rw [Bus.request_timer, htma, hzero, hmax]
        rfl

theorem Timer.Counted.timerMCycle {t₀ : Timer} {b : Bus} {n : Nat} (h : t₀.Counted n b.timer) (hn : n + 4 ≤ 16)
    (hmax : t₀.tima = 0xFF → t₀.tma = 0x00) : t₀.Counted (n + 4) b.timerMCycle.timer := by
  simp only [Bus.timerMCycle, Bus.timerTCycle_timer]
  exact (((h.reload.tick (by omega) hmax).tick (by omega) hmax).tick (by omega) hmax).tick (by omega) hmax

theorem Bus.timerMCycle_div16 (b : Bus) : b.timerMCycle.timer.div16 = b.timer.div16 + 4 := by
  simp only [Bus.timerMCycle, Bus.timerTCycle_timer, Timer.tick_div16, Bus.timerReload_div16]
  bv_omega

/-- Settles O53: 16 T-cycles pass one multiple of 16 whatever the divider's phase. -/
theorem timerRate : Obligations.TimerRate := by
  intro b htac hrun b'
  have hcounted (hmax : b.timer.tima = 0xFF → b.timer.tma = 0x00) :
      b'.timer.tima = b.timer.tima + 1 ∧ (b'.timer.tstate = .running ∨ b.timer.tima = 0xFF ∧ b.timer.tma = 0x00) := by
    have h0 : b.timer.Counted 0 b.timer :=
      ⟨htac, rfl, (Nat.mod_eq_of_lt b.timer.div16.isLt).symm, fun _ => ⟨rfl, hrun⟩, fun _ => by omega⟩
    have h16 : b.timer.Counted 16 b'.timer :=
      (((h0.timerMCycle (by decide) hmax).timerMCycle (by decide) hmax).timerMCycle (by decide) hmax).timerMCycle
        (by decide) hmax
    exact h16.after (Nat.le_add_left 16 _)
  refine ⟨?_, fun hlt => ?_, fun hmax hzero => ?_⟩
  · have hdiv : b'.timer.div16 = b.timer.div16 + 16 := by
      simp only [b', Bus.timerMCycle_div16]
      bv_omega
    rw [hdiv, BitVec.toNat_add]
    rfl
  · have hne : b.timer.tima ≠ 0xFF := fun he => by rw [he] at hlt; exact absurd hlt (by decide)
    obtain ⟨htima, hstate | ⟨hmax, -⟩⟩ := hcounted fun hmax => absurd hmax hne
    · refine ⟨?_, hstate⟩
      rw [htima]
      exact (BitVec.toNat_add _ 1).trans (Nat.mod_eq_of_lt (Nat.succ_lt_succ hlt))
    · exact absurd hmax hne
  · rw [(hcounted fun _ => hzero).1, hmax]
    rfl

/-! ## A serial transfer -/

/-- `b` is `b₀` after `n` of the eight edges of a transfer: a 1 has come in at each (R465). -/
structure Bus.Shifted (b₀ : Bus) (n : Nat) (b : Bus) : Prop where
  bits : b.serial.bits = 8 - n
  start : n < 8 → b.serial.start = b₀.serial.start
  clock : b.serial.internalClock = b₀.serial.internalClock
  ones : ∀ j, j < n → b.serial.sb.getLsbD j = true
  ended : n = 8 → b.serial.start = false ∧ b.irq.iflag.getLsbD 3 = true

theorem getLsbD_shiftIn_one (v : Byte) {j : Nat} (hj : j < 8) :
    ((v <<< 1) ||| 1).getLsbD j = (decide (j = 0) || v.getLsbD (j - 1)) := by
  simp only [BitVec.getLsbD_or, BitVec.getLsbD_shiftLeft]
  grind

theorem Bus.Shifted.serialShiftEdge {b₀ b : Bus} {n : Nat} (h : b₀.Shifted n b) (hn : n < 8) :
    b₀.Shifted (n + 1) b.serialShiftEdge := by
  obtain ⟨hbits, hstart, hclock, hones, -⟩ := h
  have hones' : ∀ j, j < n + 1 → ((b.serial.sb <<< 1) ||| 1).getLsbD j = true := fun j hj => by
    rw [getLsbD_shiftIn_one _ (by omega)]
    rcases Nat.eq_zero_or_pos j with rfl | hpos
    · rfl
    · rw [hones (j - 1) (by omega), Bool.or_true]
  unfold Bus.serialShiftEdge
  rw [if_neg (by omega)]
  dsimp only
  split
  case isTrue hlast =>
    refine ⟨by rw [Bus.request_serial]; dsimp only; omega, fun _ => by omega, hclock, hones', fun _ => ⟨rfl, ?_⟩⟩
    rw [Bus.getLsbD_request]
    simp
  case isFalse hmore =>
    exact ⟨by dsimp only; omega, fun _ => hstart hn, hclock, hones', fun _ => by omega⟩

theorem Bus.shiftEdges_eq_iterate (n : Nat) (b : Bus) : Bus.shiftEdges n b = Bus.serialShiftEdge^[n] b := by
  induction n generalizing b with
  | zero => rfl
  | succ n ih => exact ih b.serialShiftEdge

theorem Serial.eq_of_parts {x y : Serial} (hsb : x.sb = y.sb) (hstart : x.start = y.start)
    (hclock : x.internalClock = y.internalClock) (hbits : x.bits = y.bits) : x = y := by
  cases x; cases y; simp_all

/-- Settles O57: each edge shifts a 1 in, and the eighth ends the transfer. -/
theorem serialTransfer : Obligations.SerialTransfer := by
  intro b hbits
  have h0 : b.Shifted 0 b := ⟨hbits, fun _ => rfl, rfl, fun _ hj => by omega, fun h => by omega⟩
  have hn (n : Nat) (hle : n ≤ 8) : b.Shifted n (Bus.shiftEdges n b) := by
    rw [Bus.shiftEdges_eq_iterate]
    exact iterate_counted (fun _ _ hlt h => h.serialShiftEdge hlt) h0 hle
  have h8 := hn 8 (Nat.le_refl 8)
  have hsb : (Bus.shiftEdges 8 b).serial.sb = 0xFF := BitVec.eq_of_getLsbD_eq fun j hj => by
    rw [h8.ones j hj]
    interval_cases j <;> rfl
  obtain ⟨hstart, hirq⟩ := h8.ended rfl
  exact ⟨Serial.eq_of_parts hsb hstart h8.clock h8.bits, hirq,
    fun n hlt => ⟨(hn n hlt.le).start hlt, (hn n hlt.le).bits⟩⟩

/-! ## A transfer to OAM -/

/-- The DMA state of a transfer with `n` bytes copied (R483). -/
def DmaState.copied (src : Byte) (n : Nat) : DmaState := if n = 160 then .idle else .active src n

/-- `b` is `b₀` after `n` bytes of a transfer from the page `src`. -/
structure Bus.Copied (b₀ : Bus) (src : Byte) (n : Nat) (b : Bus) : Prop where
  wf : b.mem.wf = true
  dma : b.dma.st = DmaState.copied src n
  oam : ∀ i, i < n → b.mem.read (oamKey i) = b₀.mem.read (src.toNat * 256 + i)
  frame : ∀ k, ¬ IsOamKey k → b.mem.read k = b₀.mem.read k

/-- In work RAM the DMA reads the byte at the address itself (R482). -/
theorem Bus.dmaSourceRead_wram (b : Bus) {a : Word} (h : 0xC000 ≤ a.toNat) (h' : a.toNat ≤ 0xDFFF) :
    b.dmaSourceRead a = b.mem.read a.toNat := by
  rw [Bus.dmaSourceRead, region_eq_wram h h']
  have hmask : a.toNat &&& 0x1FFF = a.toNat % 0x2000 := Nat.and_two_pow_sub_one_eq_mod a.toNat 13
  dsimp only
  rw [wramKey, hmask]
  congr 1
  omega

/-- An M-cycle without an access cannot corrupt OAM (R520). -/
theorem Bus.oamBugStep_none (b : Bus) : b.oamBugStep none = b := rfl

theorem Bus.Copied.advance {b₀ b : Bus} {src : Byte} {n : Nat} (h : b₀.Copied src n b) (hn : n < 160)
    (hlo : 0xC0 ≤ src.toNat) (hhi : src.toNat ≤ 0xDF) : b₀.Copied src (n + 1) (b.advance none) := by
  obtain ⟨hw, hdma, hoam, hframe⟩ := h
  have hactive : b.dma.st = .active src n := hdma.trans (if_neg (by omega))
  have haddr : (BitVec.ofNat 16 (src.toNat * 0x100 + n)).toNat = src.toNat * 256 + n := by
    rw [BitVec.toNat_ofNat]
    omega
  have hsrc : b.dmaSourceRead (BitVec.ofNat 16 (src.toNat * 0x100 + n)) = b₀.mem.read (src.toNat * 256 + n) := by
    rw [b.dmaSourceRead_wram (by omega) (by omega), haddr]
    exact hframe _ (by unfold IsOamKey; omega)
  have hmem : (b.advance none).mem = b.mem.write (oamKey n) (b₀.mem.read (src.toNat * 256 + n)) := by
    rw [Bus.advance_mem, b.oamBugStep_none, Bus.dmaStep, hactive, ← hsrc]
  have hst : (b.advance none).dma.st = if n = 159 then .idle else .active src (n + 1) := by
    rw [Bus.advance_dma, b.oamBugStep_none, Bus.dmaStep, hactive]
  refine ⟨b.advance_wf none hw, ?_, fun i hi => ?_, fun k hk => ?_⟩
  · rw [hst, DmaState.copied]
    congr 1
    simp
  · rw [hmem, Memory.read_write _ _ _ hw]
    unfold oamKey
    split
    next heq => rw [show i = n by omega]
    next hne => exact hoam i (by omega)
  · rw [hmem, Memory.read_write_other _ _ _ hw (fun he => hk (by unfold IsOamKey; rw [he, oamKey]; omega))]
    exact hframe k hk

/-- Settles O51: each M-cycle copies one byte, and the source lies outside OAM. -/
theorem dmaCopies : Obligations.DmaCopies := by
  intro b src hw hst hlo hhi
  have h0 : b.Copied src 0 b := ⟨hw, hst, fun _ hi => by omega, fun _ _ => rfl⟩
  have h160 : b.Copied src 160 (Bus.idle 160 b) := by
    rw [Bus.idle_eq_iterate]
    exact iterate_counted (fun _ _ hlt h => h.advance hlt hlo hhi) h0 (Nat.le_refl 160)
  obtain ⟨-, hdma, hoam, hframe⟩ := h160
  exact ⟨hdma, hoam, hframe⟩

end Sys2Proof.Machine
end

section
/-! PROOFS. 60_exceptions.md, the PPU's frame (R500, R501, R511), the STAT line (R509, R513 to R515) and the joypad lines
(R460, R461). Of the stages of a dot VBlank's entry alone requests IF bit 0 and the STAT line alone IF bit 1. -/

namespace Sys2Proof.Machine

/-! ## The STAT line -/

/-- The selected conditions of R513 and R514, one by one. -/
theorem Ppu.statCondition_iff (p : Ppu) (ps : Params) :
    p.statCondition ps = true ↔ p.lcdOn = true ∧
      ((p.statSel.getLsbD 3 = true ∧ p.lyRead ps.line153LyQuirk = p.lyc) ∨
       (p.statSel.getLsbD 2 = true ∧ p.mode = .oamScan) ∨
       (p.statSel.getLsbD 1 = true ∧ p.mode = .vblank) ∨
       (p.statSel.getLsbD 0 = true ∧ p.mode = .hblank) ∨
       (ps.vblankMode2Stat = true ∧ p.statSel.getLsbD 2 = true ∧ p.ly = 144 ∧ p.dot = 0)) := by
  simp only [Ppu.statCondition, Ppu.coincidence, Bool.and_eq_true, Bool.or_eq_true, decide_eq_true_eq, beq_iff_eq,
    or_assoc, and_assoc]

/-- The line requests on its rising edge, IF bit 1 and no other (R513). -/
theorem Bus.getLsbD_updateStatLine (b : Bus) (j : Nat) :
    b.updateStatLine.irq.iflag.getLsbD j =
      (b.irq.iflag.getLsbD j || (decide (j = 1) && b.ppu.statCondition b.params && !b.ppu.statLine)) := by
  unfold Bus.updateStatLine
  dsimp only
  split
  case isTrue hedge =>
    rw [Bus.getLsbD_request, Bool.and_assoc, hedge]
    have hj : (decide (j < 5) && decide (j = 1)) = (decide (j = 1) && true) := by grind
    rw [hj]
  case isFalse hnone =>
    rw [Bool.and_assoc, Bool.eq_false_iff.mpr hnone, Bool.and_false, Bool.or_false]

theorem Bus.cpuWrite_stat (b : Bus) (v : Byte) : b.cpuWrite 0xFF41 v = b.writeStat v := b.cpuWrite_io v (by decide) rfl

theorem Bus.cpuWrite_lcdc (b : Bus) (v : Byte) : b.cpuWrite 0xFF40 v = b.writeLcdc v := b.cpuWrite_io v (by decide) rfl

/-- A byte below 0x80 turns the LCD off (R509). -/
theorem Bus.writeLcdc_off (b : Bus) (v : Byte) (hon : b.ppu.lcdOn = true) (hv : v.toNat < 0x80) :
    b.writeLcdc v = { b with ppu := { b.ppu with lcdc := v, ly := 0, dot := 0, mode := .hblank, statLine := false } } := by
  have hbit : v.getLsbD 7 = false := by
    rw [BitVec.getLsbD, Nat.testBit_eq_decide_div_mod_eq]
    exact decide_eq_false (by omega)
  refine if_pos ?_
  rw [hon]
  exact congrArg (fun x => !x) hbit

/-- Settles O55: the condition read bit by bit, and the request on its rising edge alone. -/
theorem statLine : Obligations.StatLine := by
  intro b v
  refine ⟨?_, b.cpuWrite_stat v, fun hon hv => (b.cpuWrite_lcdc v).trans (b.writeLcdc_off v hon hv)⟩
  intro line
  have hline : b.ppu.statCondition b.params = true ↔ line := b.ppu.statCondition_iff b.params
  refine ⟨?_, ?_, fun j hj => ?_⟩
  · rw [Bus.updateStatLine_ppu]
    exact hline
  · rw [Bus.getLsbD_updateStatLine, ← hline]
    simp
  · rw [Bus.getLsbD_updateStatLine, decide_eq_false hj, Bool.false_and, Bool.false_and, Bool.or_false]

/-! ## The frame -/

/-- One place on, in the frame of 154 lines of 456 dots (R500, R501). -/
theorem Ppu.position_nextDot (p : Ppu) (hdot : p.dot ≤ 455) (hly : p.ly ≤ 153) :
    p.nextDot.position = (p.position + 1) % 70224 := by
  unfold Ppu.nextDot
  split
  · split <;> simp only [Ppu.position] <;> omega
  · simp only [Ppu.position]
    omega

theorem Ppu.position_eq_vblank_iff (p : Ppu) (hdot : p.dot ≤ 455) : p.position = 144 * 456 ↔ p.ly = 144 ∧ p.dot = 0 := by
  rw [Ppu.position]
  omega

/-- VBlank's entry requests IF bit 0 at line 144 dot 0 (R511). -/
theorem Bus.getLsbD_vblankEntry (b : Bus) :
    b.vblankEntry.irq.iflag.getLsbD 0 = (b.irq.iflag.getLsbD 0 || decide (b.ppu.ly = 144 ∧ b.ppu.dot = 0)) := by
  unfold Bus.vblankEntry
  split
  case isTrue hplace => rw [Bus.emit_irq, Bus.getLsbD_request, decide_eq_true hplace]; rfl
  case isFalse hplace => rw [decide_eq_false hplace, Bool.or_false]

/-- The place of the PPU after a dot, and the mode of that place (R501, R502). -/
theorem Bus.ppuDot_place (b : Bus) (hon : b.ppu.lcdOn = true) :
    b.ppuDot.ppu.ly = b.ppu.nextDot.ly ∧ b.ppuDot.ppu.dot = b.ppu.nextDot.dot ∧
    b.ppuDot.ppu.position = b.ppu.nextDot.position := by
  obtain ⟨l, n, f, w, m, st, hq⟩ := b.ppuDot_ppu hon
  rw [hq]
  exact ⟨rfl, rfl, rfl⟩

theorem Ppu.modeAt_eq_vblank_iff (p : Ppu) (skips : Bool) : p.modeAt skips = .vblank ↔ 144 ≤ p.ly := by
  unfold Ppu.modeAt
  repeat' split
  all_goals simp only [reduceCtorEq, false_iff, true_iff]
  all_goals omega

theorem Bus.getLsbD_ppuDot (b : Bus) (hon : b.ppu.lcdOn = true) :
    b.ppuDot.irq.iflag.getLsbD 0 =
      (b.irq.iflag.getLsbD 0 || decide (b.ppu.nextDot.ly = 144 ∧ b.ppu.nextDot.dot = 0)) := by
  rw [b.ppuDot_on hon, Bus.getLsbD_updateStatLine, Bus.updateMode_irq, Bus.renderDot_irq, Bus.lengthDot_irq,
    Bus.scanDot_irq, Bus.getLsbD_vblankEntry]
  simp

/-- Settles O54: a dot is one place on, and its request is that of VBlank's entry. -/
theorem ppuFrame : Obligations.PpuFrame := by
  intro b hdot hly
  refine ⟨fun hon => ?_, b.ppuDot_off⟩
  obtain ⟨ely, edot, epos⟩ := b.ppuDot_place hon
  obtain ⟨hdot', hly'⟩ := b.ppu.nextDot_range ⟨hdot, hly⟩
  refine ⟨?_, edot ▸ hdot', ely ▸ hly', ?_, ?_⟩
  · rw [epos, b.ppu.position_nextDot hdot hly]
  · rw [epos, b.getLsbD_ppuDot hon]
    simp only [b.ppu.nextDot.position_eq_vblank_iff hdot']
  · rw [(b.ppuDot_mode hon).1, Ppu.modeAt_eq_vblank_iff]

/-! ## The joypad -/

/-- P1 reads its select bits over the lines (R460). -/
theorem Bus.cpuRead_p1 (b : Bus) : b.cpuRead 0xFF00 = (0b11#2 ++ b.joypad.p1sel) ++ b.joypad.lines := by
  rw [Bus.cpuRead, b.dmaBlocks_high (by decide), BitVec.append_assoc]
  rfl

/-- A line is low when a selected group pulls it (R460). -/
theorem Joypad.getLsbD_lines (j : Joypad) {k : Nat} (hk : k < 4) :
    j.lines.getLsbD k = false ↔
      (j.p1sel.getLsbD 0 = false ∧ j.buttons.directions.getLsbD k = true) ∨
      (j.p1sel.getLsbD 1 = false ∧ j.buttons.actions.getLsbD k = true) := by
  have hones : (0xF#4).getLsbD k = true := by interval_cases k <;> rfl
  have hpull (x : BitVec 4) : (~~~ x).getLsbD k = !x.getLsbD k := by rw [BitVec.getLsbD_not, decide_eq_true hk, Bool.true_and]
  unfold Joypad.lines
  dsimp only
  cases j.p1sel.getLsbD 0 <;> cases j.p1sel.getLsbD 1 <;>
    simp only [Bool.false_eq_true, reduceIte, BitVec.getLsbD_and, hpull, hones, Bool.true_and] <;> grind

/-- Four buttons by the line that each is on. -/
theorem getLsbD_nibble (k3 k2 k1 k0 : Bool) :
    let n := BitVec.ofBool k3 ++ (BitVec.ofBool k2 ++ (BitVec.ofBool k1 ++ BitVec.ofBool k0))
    n.getLsbD 0 = k0 ∧ n.getLsbD 1 = k1 ∧ n.getLsbD 2 = k2 ∧ n.getLsbD 3 = k3 := by
  revert k3 k2 k1 k0
  decide

/-- Each line with the two buttons on it (R460). -/
theorem Buttons.getLsbD_nibbles (x : Buttons) :
    ∀ row ∈ [(0, x.right, x.a), (1, x.left, x.b), (2, x.up, x.select), (3, x.down, x.start)],
      row.1 < 4 ∧ x.directions.getLsbD row.1 = row.2.1 ∧ x.actions.getLsbD row.1 = row.2.2 := by
  obtain ⟨hright, hleft, hup, hdown⟩ := getLsbD_nibble x.down x.up x.left x.right
  obtain ⟨ha, hb, hselect, hstart⟩ := getLsbD_nibble x.start x.select x.b x.a
  simp only [List.forall_mem_cons, List.not_mem_nil, false_imp_iff, implies_true, and_true]
  exact ⟨⟨by decide, hright, ha⟩, ⟨by decide, hleft, hb⟩, ⟨by decide, hup, hselect⟩, ⟨by decide, hdown, hstart⟩⟩

theorem Bus.getLsbD_joypadSample (b : Bus) :
    b.joypadSample.irq.iflag.getLsbD 4 =
      (b.irq.iflag.getLsbD 4 || decide (b.joypad.linesPrev &&& ~~~ b.joypad.lines ≠ 0)) := by
  unfold Bus.joypadSample
  dsimp only
  split
  case isTrue hsame => rw [decide_eq_false (not_not_intro hsame), Bool.or_false]
  case isFalse hfall => rw [Bus.getLsbD_request, decide_eq_true hfall]; rfl

/-- Some line falls: it was high and is low (R461). -/
theorem fallingLine_iff (old new : BitVec 4) :
    old &&& ~~~ new ≠ 0 ↔ ∃ j, j < 4 ∧ old.getLsbD j = true ∧ new.getLsbD j = false := by
  have hzero (j : Nat) : (0 : BitVec 4).getLsbD j = false := BitVec.getLsbD_zero
  rw [ne_eq, BitVec.eq_of_getLsbD_eq_iff]
  simp only [BitVec.getLsbD_and, BitVec.getLsbD_not, hzero]
  grind

/-- Settles O56: P1 is its select bits over the lines, and a line that was high and is low makes the request. -/
theorem joypadLines : Obligations.JoypadLines := by
  intro b
  rw [b.cpuRead_p1]
  refine ⟨BitVec.extractLsb'_append_eq_left, ?_, ?_, ?_⟩
  · intro x row hrow
    obtain ⟨hk, hdir, hact⟩ := x.getLsbD_nibbles row hrow
    rw [BitVec.getLsbD_append, if_pos hk, b.joypad.getLsbD_lines hk, hdir, hact]
  · rw [b.getLsbD_joypadSample, ← fallingLine_iff, Bool.or_eq_true, decide_eq_true_eq]
  · unfold Bus.joypadSample
    dsimp only
    split <;> rfl

end Sys2Proof.Machine
end

section
/-! PROOFS. 70_reset_and_hazards.md, loading and reset (R600 to R606). The two resets, with and without a boot ROM, differ
in what they leave to the arguments; memory is written cell by cell from the empty list in both. -/

namespace Sys2Proof.Machine

/-! ## What loading answers -/

/-- The cartridge registers of an accepted header have the reset values of its scheme (R602). -/
theorem Header.cart_scheme {h : Header} {len : Nat} {supported : List MbcKind} {c : Cart}
    (hc : h.cart len supported = .ok c) : ∃ k clock, c.scheme = MbcKind.scheme k clock := by
  unfold Header.cart at hc
  repeat' split at hc
  all_goals cases hc
  exact ⟨_, _, rfl⟩

/-- Loading answers one of the two resets, on the cartridge of an accepted header (R600). -/
theorem LoadArgs.load_eq_ok {args : LoadArgs} {s : State} (h : args.load = .ok s) :
    ∃ cart, args.image.header.cart args.image.length args.supported = .ok cart ∧
      ((args.params.bootRom = none ∧ s = args.plainReset cart) ∨
       (args.params.bootRom ≠ none ∧ s = args.bootReset cart)) := by
  unfold LoadArgs.load at h
  split at h
  · cases h
  next cart hcart =>
    refine ⟨cart, hcart, ?_⟩
    split at h <;> cases h
    next hboot => exact .inl ⟨hboot, rfl⟩
    next hboot => exact .inr ⟨by rw [hboot]; exact Option.some_ne_none _, rfl⟩

/-! ## The invariant -/

/-- Cells that are written one by one, or left out, keep the canonical form. -/
theorem foldl_write_wf {f : Memory → Host.Cell → Memory}
    (hf : ∀ m c, f m c = m ∨ ∃ k v, f m c = m.write k v) (cells : List Host.Cell) {m : Memory} (hm : m.wf = true) :
    (cells.foldl f m).wf = true := by
  refine List.foldlRecOn (motive := fun m : Memory => m.wf = true) cells f hm fun m hm c _ => ?_
  rcases hf m c with h | ⟨k, v, h⟩ <;> rw [h]
  · exact hm
  · exact Memory.write_wf _ _ _ hm

theorem placeInitial_wf (c : Cart) (cells : List Host.Cell) {m : Memory} (hm : m.wf = true) :
    (placeInitial c cells m).wf = true := by
  refine foldl_write_wf (fun m cell => ?_) cells hm
  split
  · exact .inr ⟨_, _, rfl⟩
  · exact .inl rfl

theorem Image.place_wf (img : Image) {m : Memory} (hm : m.wf = true) : (img.place m).wf = true := by
  refine foldl_write_wf (fun m cell => ?_) img.bytes hm
  split
  · exact .inr ⟨_, _, rfl⟩
  · exact .inl rfl

/-- The first contents of the memories and the image in them are in the canonical form (R605, log entry 1). -/
theorem LoadArgs.plainReset_mem_wf (args : LoadArgs) (cart : Cart) : (args.plainReset cart).bus.mem.wf = true :=
  args.image.place_wf (placeInitial_wf cart args.initialMemory rfl)

theorem LoadArgs.plainReset_lcdOn (args : LoadArgs) (cart : Cart) : (args.plainReset cart).bus.ppu.lcdOn = true :=
  (by decide : State.reset.bus.ppu.lcdOn = true)

theorem LoadArgs.bootReset_lcdOn (args : LoadArgs) (cart : Cart) : (args.bootReset cart).bus.ppu.lcdOn = false :=
  (by decide : (0x00 : Byte).getLsbD 7 = false)

theorem Ppu.statCondition_off {p : Ppu} (ps : Params) (hoff : p.lcdOn = false) : p.statCondition ps = false := by
  rw [Ppu.statCondition, hoff, Bool.false_and]

/-- The stored mode and STAT line are those of the phase (R604), so what is left is its range. -/
theorem LoadArgs.plainReset_busInv (args : LoadArgs) (cart : Cart) : (args.plainReset cart).bus.Inv where
  valid := ⟨trivial, ⟨Nat.le_of_lt_succ args.phaseDot.isLt, Nat.le_of_lt_succ args.phaseLy.isLt,
    fun hoff => absurd (hoff.symm.trans (args.plainReset_lcdOn cart)) Bool.false_ne_true⟩, Nat.zero_le _⟩
  mem := args.plainReset_mem_wf cart
  ppu :=
    { frame := rfl
      mode := fun _ => rfl
      line := ⟨Nat.le_refl 172, (by decide : 172 ≤ 289), Nat.zero_le _⟩
      window := ⟨Nat.zero_le _, fun _ => Nat.zero_le _⟩
      statLine := rfl }

/-- With a boot ROM the LCD is off, which leaves its mode and STAT line nothing to follow (R509, R600). -/
theorem LoadArgs.bootReset_busInv (args : LoadArgs) (cart : Cart) : (args.bootReset cart).bus.Inv where
  valid := ⟨trivial, ⟨Nat.zero_le _, Nat.zero_le _, fun _ => ⟨rfl, rfl, rfl⟩⟩, Nat.zero_le _⟩
  mem := args.plainReset_mem_wf cart
  ppu :=
    { frame := rfl
      mode := fun hon => absurd ((args.bootReset_lcdOn cart).symm.trans hon) Bool.false_ne_true
      line := ⟨Nat.le_refl 172, (by decide : 172 ≤ 289), Nat.zero_le _⟩
      window := ⟨Nat.zero_le _, fun _ => Nat.zero_le _⟩
      statLine := (Ppu.statCondition_off _ (args.bootReset_lcdOn cart)).symm }

theorem LoadArgs.plainReset_cpuInv (args : LoadArgs) (cart : Cart) : (args.plainReset cart).cpu.Inv :=
  ⟨fun hbad => hbad.1 rfl, (by decide : State.reset.cpu.FlagsSound)⟩

/-- Whatever F is drawn, its low bits are 0 (R32). -/
theorem LoadArgs.bootReset_cpuInv (args : LoadArgs) (cart : Cart) : (args.bootReset cart).cpu.Inv :=
  ⟨fun hbad => hbad.1 rfl, and_F0_low _⟩

/-- Settles O13: each of the two resets meets the Cpu's part of the invariant and the bus's. -/
theorem loadInv : Obligations.LoadInv := by
  intro args s h
  obtain ⟨cart, -, ⟨-, rfl⟩ | ⟨-, rfl⟩⟩ := args.load_eq_ok h
  · exact State.inv_iff _ |>.mpr ⟨args.plainReset_cpuInv cart, args.plainReset_busInv cart⟩
  · exact State.inv_iff _ |>.mpr ⟨args.bootReset_cpuInv cart, args.bootReset_busInv cart⟩

/-- Settles O12: `State.reset` is what loading the all-zero image gives (log entry 2). -/
theorem resetInv : Obligations.ResetInv := loadInv (.default { length := 0x8000, bytes := [] }) State.reset rfl

/-! ## The values -/

/-- With no condition selected the STAT line is low (R513). -/
theorem Ppu.statCondition_of_none_selected {p : Ppu} (ps : Params) (h : p.statSel = 0) : p.statCondition ps = false := by
  rw [Bool.eq_false_iff, ne_eq, Ppu.statCondition_iff, h]
  simp

/-- IE enables nothing, and no button pulls a line low (R401, R460). -/
theorem reset_idle : State.reset.bus.pending = 0 ∧ State.reset.bus.joypad.lines = 0xF := by decide

/-- Settles O60: the reset without a boot ROM is `State.reset` but for its arguments; the STAT line and the cartridge's
registers are left to the rules for them. -/
theorem resetValues : Obligations.ResetValues := by
  intro args s h hboot
  obtain ⟨cart, hcart, ⟨-, rfl⟩ | ⟨hsome, -⟩⟩ := args.load_eq_ok h
  case inr => exact absurd hboot hsome
  refine ⟨rfl, rfl, reset_idle.1, rfl, rfl, rfl, rfl, rfl, rfl, reset_idle.2, rfl, ?_, ?_⟩
  · exact ⟨rfl, rfl, rfl, rfl, rfl, rfl, rfl, rfl, rfl, rfl, rfl, rfl, rfl,
      Ppu.statCondition_of_none_selected args.params rfl, rfl, rfl, rfl, rfl, fun _ => rfl⟩
  · obtain ⟨k, clock, hscheme⟩ := Header.cart_scheme hcart
    rw [show (args.plainReset cart).bus.cart.scheme = _ from hscheme]
    cases k
    case rom => exact trivial
    all_goals rfl

end Sys2Proof.Machine
end

section
/-! PROOFS. 70_reset_and_hazards.md, the M-cycles of an instruction (R640). The fetch costs one for each byte; what the
operation adds is counted on the bus, where every M-cycle is one `Bus.advance`. -/

namespace Sys2Proof.Machine

/-! ## Operations -/

theorem State.writeCycle_cycles (s : State) (a : Word) (v : Byte) :
    (s.writeCycle a v).bus.cycles = s.bus.cycles + 1 := by
  rw [State.writeCycle_bus, Bus.advance_cycles, Bus.cpuWrite_cycles]

theorem State.pushWord_cycles (s : State) (v : Word) : (s.pushWord v).bus.cycles = s.bus.cycles + 2 := by
  rw [State.pushWord, State.pushByte_bus, Bus.advance_cycles, Bus.cpuWrite_cycles, State.pushByte_bus, Bus.advance_cycles,
    Bus.cpuWrite_cycles]

theorem State.callTo_cycles (s : State) (a : Word) : (s.callTo a).bus.cycles = s.bus.cycles + 3 := by
  rw [State.callTo_bus, State.pushWord_cycles, State.internalIdu_bus, Bus.advance_cycles]

theorem jumpIf_cycles {cc : Cond} {a : Word} {s t : State} (h : jumpIf cc a s = .next t) :
    t.bus.cycles = s.bus.cycles + if s.cpu.cond cc then 1 else 0 := by
  unfold jumpIf jumpTo at h
  split at h <;> cases h
  next htaken => rw [if_pos htaken]; rfl
  next hskipped => rw [if_neg hskipped]; rfl

theorem callIf_cycles {cc : Cond} {a : Word} {s t : State} (h : callIf cc a s = .next t) :
    t.bus.cycles = s.bus.cycles + if s.cpu.cond cc then 3 else 0 := by
  unfold callIf call at h
  split at h <;> cases h
  next htaken => rw [if_pos htaken, State.callTo_cycles]
  next hskipped => rw [if_neg hskipped]; rfl

/-- The test costs an M-cycle of its own (R338). -/
theorem retIf_cycles {cc : Cond} {s t : State} (h : retIf cc s = .next t) :
    t.bus.cycles = s.bus.cycles + 1 + if s.cpu.cond cc then 3 else 0 := by
  unfold retIf at h
  split at h <;> cases h
  next htaken => rw [if_pos htaken]; rfl
  next hskipped => rw [if_neg hskipped]; rfl

/-! ## The prefixed set -/

theorem prefixedCycles_register {op2 : Byte} {r : Reg8} (hz : reg8OfCode (op2.extractLsb' 0 3) = some r) :
    prefixedCycles op2 = 2 := by
  refine if_neg fun hsix => ?_
  rw [hsix] at hz
  cases hz

theorem prefixedCycles_bitMem {op2 : Byte} (hz : reg8OfCode (op2.extractLsb' 0 3) = none)
    (hx : (op2.extractLsb' 6 2).toNat = 1) : prefixedCycles op2 = 3 :=
  (if_pos (reg8OfCode_eq_none hz)).trans (if_pos (BitVec.eq_of_toNat_eq hx))

theorem prefixedCycles_modifyMem {op2 : Byte} (hz : reg8OfCode (op2.extractLsb' 0 3) = none)
    (hx : (op2.extractLsb' 6 2).toNat ≠ 1) : prefixedCycles op2 = 4 :=
  (if_pos (reg8OfCode_eq_none hz)).trans (if_neg fun hone => hx (by rw [hone]; rfl))

/-- A prefixed instruction at (HL) reads it and, unless it is BIT, writes it (R304). -/
theorem execPrefixCb_cycles {op2 : Byte} {s t : State} (h : execPrefixCb op2 s = .next t) :
    t.bus.cycles + 2 = s.bus.cycles + prefixedCycles op2 := by
  unfold execPrefixCb at h
  dsimp only at h
  split at h
  case h_1 hz _ | h_2 hz _ | h_3 hz _ | h_4 hz _ _ _ => cases h; rw [prefixedCycles_register hz]; rfl
  case h_6 hz hx => cases h; rw [prefixedCycles_bitMem hz hx]; rfl
  case h_5 hz hx => cases h; rw [prefixedCycles_modifyMem hz (by omega), State.mapCpu_bus, State.writeCycle_cycles]; rfl
  case h_7 hz hx => cases h; rw [prefixedCycles_modifyMem hz (by omega), State.writeCycle_cycles]; rfl
  case h_8 hz _ hx _ => cases h; rw [prefixedCycles_modifyMem hz hx, State.writeCycle_cycles]; rfl

/-! ## The unprefixed set -/

/-- An opcode with a condition: what its operation adds to the bus's count is what R640's table says. -/
theorem cycles_of_condition {c : Cpu} {cc : Cond} {op b1 : Byte} {base extra n m : Nat}
    (hm : m = n + base + if c.cond cc then extra else 0) (hop : op ≠ 0xCB) (hcond : conditionOf op = some (cc, extra))
    (hbase : busLength op + base = opCycles.getD op.toNat 0) : m + busLength op = n + instrCycles c op b1 := by
  rw [instrCycles, if_neg hop, hcond, hm, ← hbase]
  dsimp only
  omega

/-- An unprefixed instruction, by the opcode that it encodes to: the fetch and the operation together cost what the table
says. `cases hcb` ends the prefixed ones; `conditionOf` evaluates once the opcode no longer mentions the operand. -/
theorem exec_cycles_of_unprefixed {i : Instr} {s t : State} (h : exec i s = .next t)
    (hcb : ((encode i).headD 0 == 0xCB) = false) (b1 : Byte) :
    t.bus.cycles + busLength ((encode i).headD 0) = s.bus.cycles + instrCycles s.cpu ((encode i).headD 0) b1 := by
  cases i
  all_goals cases hcb
  case jrNzE | jrZE | jrNcE | jrCE | jpNzNn | jpZNn | jpNcNn | jpCNn =>
    dsimp only [encode, List.headD_cons]
    exact cycles_of_condition (base := 0) (jumpIf_cycles h) (ne_of_beq_false rfl) rfl rfl
  case callNzNn | callZNn | callNcNn | callCNn =>
    dsimp only [encode, List.headD_cons]
    exact cycles_of_condition (base := 0) (callIf_cycles h) (ne_of_beq_false rfl) rfl rfl
  case retNz | retZ | retNc | retC =>
    exact cycles_of_condition (base := 1) (retIf_cycles h) (ne_of_beq_false rfl) rfl rfl
  case halt => rw [execHalt_bus (· = s.bus) s t h rfl]; rfl
  all_goals cases h
  case stop => rw [State.mapCpu_bus, Bus.setDivider_cycles]; rfl
  case ldAtNnSp => rw [State.writeCycle_cycles, State.writeCycle_cycles]; rfl
  case ldAtHlB | ldAtHlC | ldAtHlD | ldAtHlE | ldAtHlH | ldAtHlL | ldAtHlA | ldAtHlN
      | ldAtBcA | ldAtDeA | ldAtNnA | ldhAtNA | ldhAtCA =>
    rw [State.writeCycle_cycles]; rfl
  case ldAtHlIncA | ldAtHlDecA | incAtHl | decAtHl =>
    rw [State.mapCpu_bus, State.writeCycle_cycles]; rfl
  case pushBc | pushDe | pushHl | pushAf => rw [State.pushWord_cycles]; rfl
  case callNn | rst00 | rst08 | rst10 | rst18 | rst20 | rst28 | rst30 | rst38 => rw [State.callTo_cycles]; rfl
  all_goals rfl

/-! ## The instruction that is fetched -/

theorem encode_decodeOp_head (op b1 b2 : Byte) : (encode (decodeOp op b1 b2)).headD 0 = op := by
  by_cases hop : op = 0x10
  · subst hop; rfl
  · rw [encode_decodeOp b1 b2 hop]; rfl

theorem exec_decodeOp_cycles {op b1 b2 : Byte} {s t : State} (h : exec (decodeOp op b1 b2) s = .next t) :
    t.bus.cycles + busLength op = s.bus.cycles + instrCycles s.cpu op b1 := by
  by_cases hop : op = 0xCB
  · subst hop
    exact execPrefixCb_cycles ((exec_decodeCb b1 s).symm.trans h)
  · have hhead := encode_decodeOp_head op b1 b2
    have hcount := exec_cycles_of_unprefixed h (by rw [hhead]; exact beq_false_of_ne hop) b1
    rwa [hhead] at hcount

/-- The second byte counts after the prefix alone (R365). -/
theorem instrCycles_of_ne_prefix {op : Byte} (c : Cpu) (b1 b1' : Byte) (hop : op ≠ 0xCB) :
    instrCycles c op b1 = instrCycles c op b1' := by
  rw [instrCycles, instrCycles, if_neg hop, if_neg hop]

theorem busLength_cases (op : Byte) : busLength op = 1 ∨ busLength op = 2 ∨ busLength op = 3 := by
  unfold busLength
  split
  · exact .inl rfl
  · exact opLength_cases op

/-- The instruction fetched is of the opcode and, where that is more than one byte, of the byte after it. -/
theorem State.fetchedInstr_eq (s : State) :
    ∃ b1 b2, s.fetchedInstr = decodeOp s.opByte b1 b2 ∧ (busLength s.opByte = 1 ∨ b1 = s.immByte 0) := by
  rcases busLength_cases s.opByte with hlen | hlen | hlen
  · exact ⟨0, 0, State.fetchedInstr_of_busLength_one hlen, .inl hlen⟩
  · exact ⟨s.immByte 0, 0, by simp [State.fetchedInstr, hlen], .inr rfl⟩
  · exact ⟨s.immByte 0, s.immByte 1, by simp [State.fetchedInstr, hlen], .inr rfl⟩

theorem State.instrCycles_fetched (s : State) (op b1 : Byte) :
    instrCycles s.fetched.cpu op b1 = instrCycles s.cpu op b1 := by
  rw [State.fetched_cpu]
  rfl

/-- Settles O20: the fetch M-cycles are the opcode's bytes, and the operation's are the rest of the table's count. -/
theorem cycleCounts : Obligations.CycleCounts := by
  intro s t hs hstep
  obtain ⟨hrun, hv, hno⟩ := hs
  rw [step_running hrun hv] at hstep
  obtain ⟨hime, hpend, -⟩ | ⟨-, u, hu, rfl⟩ := runOne_cases hstep
  · exact absurd ⟨hime, hpend⟩ hno
  obtain ⟨b1, b2, hi, hb1⟩ := s.fetchedInstr_eq
  obtain ⟨-, -, -, hfetch, -⟩ := fetchCycles s
  have hcount : instrCycles s.cpu s.opByte b1 = instrCycles s.cpu s.opByte (s.immByte 0) := by
    rcases hb1 with hone | rfl
    · refine instrCycles_of_ne_prefix _ _ _ fun hop => ?_
      rw [hop] at hone
      cases hone
    · rfl
  rw [hi] at hu
  have hexec := exec_decodeOp_cycles hu
  rw [s.instrCycles_fetched, hcount] at hexec
  rw [State.endOfInstruction_bus]
  omega

end Sys2Proof.Machine
end
